-- ==== Sys2Proof/Word.lean ====
section
/-! DEFINITION. The word types of the block (spec/00_scope.md R9): a byte is 8 bits, a word is 16
bits, bit 0 is the least significant bit; the request registers are 32 bits wide (R33). -/

namespace Sys2Proof

/-- A byte (R9). -/
abbrev Byte := BitVec 8

/-- A 16-bit word: a sensor code, a status word, an alert word, or a command opcode read as
`word(c0, c1)` (R9). -/
abbrev Word := BitVec 16

/-- A 32-bit register: the request word and its argument registers (R33), a binary32 pattern (R37). -/
abbrev Word32 := BitVec 32

end Sys2Proof
end

