-- ==== Sys2Proof/Machine/AlertWord.lean ====
section
/-! DEFINITION. The alert word (spec/45_alert_codec.md R230, R231): bits 15:9 are the top seven bits of
the humidity code, bits 8:0 the top nine bits of the temperature code. -/

namespace Sys2Proof.Machine

/-- The temperature code of `al_unpack(w)` (R230). -/
def alertTcode (w : Word) : Word := (w &&& 0x01FF#16) <<< 7

/-- The humidity code of `al_unpack(w)` (R230). -/
def alertRhcode (w : Word) : Word := w &&& 0xFE00#16

/-- `al_pack(tc, hc)` (R231). -/
def alPack (tc hc : Word) : Word := (hc &&& 0xFE00#16) ||| ((tc >>> 7) &&& 0x01FF#16)

end Sys2Proof.Machine
end

