-- ==== Sys2Proof/Syntax.lean ====
section
/-! DEFINITION. The names the block's tables are indexed by, and the instructions: one constructor per
row of spec/opcode_table.json. The first 28 are the host operations (format HOSTOP, spec/30_encoding.md R72); their operands are the fields of the
request word, as bits, so that an illegal selector is a term that WellFormed refuses. The last 33
are the command words (format CMD16, R80 to R112); they have no operand. -/

namespace Sys2Proof

/-- The resolutions (spec/10_state.md R25). -/
inductive Resolution where
  | low
  | medium
  | high
deriving DecidableEq, Repr

/-- The cadences, in measurements per second (spec/10_state.md R24). -/
inductive Cadence where
  | half
  | one
  | two
  | four
  | ten
deriving DecidableEq, Repr

/-- The alert thresholds (spec/30_encoding.md R71). -/
inductive Threshold where
  | highSet
  | highClear
  | lowClear
  | lowSet
deriving DecidableEq, Repr

/-- The functions with a command of their own (spec/42_command_table.md R162). -/
inductive FixedCmd where
  | fetch
  | brk
  | reset
  | heaterOn
  | heaterOff
  | statusRead
  | statusClear
deriving DecidableEq, Repr

/-- The 33 command names (spec/30_encoding.md R77): what the command table is looked up by. -/
inductive Cmd where
  | single (r : Resolution)
  | periodic (c : Cadence) (r : Resolution)
  | fixed (f : FixedCmd)
  | alertRead (t : Threshold)
  | alertWrite (t : Threshold)
deriving DecidableEq, Repr

/-- The 28 operations (spec/30_encoding.md R72). -/
inductive Op where
  | crc8
  | code2c
  | code2rh
  | c2code
  | rh2code
  | stdec
  | cmdenc
  | alpack
  | alunpack
  | singleShot
  | startPeriodic
  | fetch
  | brk
  | reset
  | heaterOn
  | heaterOff
  | statusRead
  | statusFresh
  | clearStatus
  | alertRead
  | alertWrite
  | isAlertPending
  | isHeaterOn
  | isHumidityAlert
  | isTemperatureAlert
  | isResetDetected
  | isCommandFailed
  | isWriteCrcFailed
deriving DecidableEq, Repr

/-- The instructions of spec/opcode_table.json. -/
inductive Instr where
  -- pure-unit operations
  | crc8 (seed b0 b1 : Byte)
  | code2c (code : Word)
  | code2rh (code : Word)
  | c2code
  | rh2code
  | stdec (w : Word)
  | cmdenc (cls : BitVec 4) (res : BitVec 2) (cad : BitVec 3) (thr : BitVec 2)
  | alpack
  | alunpack (w : Word)
  -- protocol operations
  | singleShot (res : BitVec 2) (conv : Bool)
  | startPeriodic (cad : BitVec 3) (res : BitVec 2)
  | fetch (conv : Bool)
  | brk
  | reset
  | heaterOn
  | heaterOff
  | statusRead
  | statusFresh
  | clearStatus
  | alertRead (thr : BitVec 2)
  | alertWrite (thr : BitVec 2)
  | isAlertPending
  | isHeaterOn
  | isHumidityAlert
  | isTemperatureAlert
  | isResetDetected
  | isCommandFailed
  | isWriteCrcFailed
  -- command words: single shot
  | cmdSsLow
  | cmdSsMedium
  | cmdSsHigh
  -- command words: periodic start
  | cmdPer05Low
  | cmdPer05Medium
  | cmdPer05High
  | cmdPer1Low
  | cmdPer1Medium
  | cmdPer1High
  | cmdPer2Low
  | cmdPer2Medium
  | cmdPer2High
  | cmdPer4Low
  | cmdPer4Medium
  | cmdPer4High
  | cmdPer10Low
  | cmdPer10Medium
  | cmdPer10High
  -- command words: fixed
  | cmdFetch
  | cmdBreak
  | cmdReset
  | cmdHeaterOn
  | cmdHeaterOff
  | cmdStatusRead
  | cmdStatusClear
  -- command words: alert limits
  | cmdAlertRdHighSet
  | cmdAlertRdHighClear
  | cmdAlertRdLowClear
  | cmdAlertRdLowSet
  | cmdAlertWrHighSet
  | cmdAlertWrHighClear
  | cmdAlertWrLowClear
  | cmdAlertWrLowSet
deriving DecidableEq, Repr

end Sys2Proof
end

