-- ==== Sys2Proof/Config.lean ====
section
/-! DEFINITION. What an implementation fixes, and what the environment leaves free.

`Params` is the configuration record of spec/00_scope.md R6: one field for each parameter of R8. The
spec's default values are `Machine.defaultParams`. The three opaque draws are the environment once its
scripts have run out (log 2): they have no body, so nothing can be proved of their values. -/

namespace Sys2Proof.Config

/-! ## The types of the parameters -/

/-- A command opcode for each resolution, written `word(c0, c1)` (R9, R160). -/
structure ByResolution where
  low    : Word
  medium : Word
  high   : Word
deriving DecidableEq, Repr

/-- A command opcode for each cadence and resolution (R161). -/
structure ByCadence where
  half : ByResolution
  one  : ByResolution
  two  : ByResolution
  four : ByResolution
  ten  : ByResolution
deriving DecidableEq, Repr

/-- A command opcode for each fixed function (R162). -/
structure FixedWords where
  fetch       : Word
  brk         : Word
  reset       : Word
  heaterOn    : Word
  heaterOff   : Word
  statusRead  : Word
  statusClear : Word
deriving DecidableEq, Repr

/-- A command opcode for each alert threshold (R162). -/
structure ByThreshold where
  highSet   : Word
  highClear : Word
  lowClear  : Word
  lowSet    : Word
deriving DecidableEq, Repr

/-- CMD, the table of the 33 command opcodes (R8, R77). -/
structure CmdTable where
  single     : ByResolution
  periodic   : ByCadence
  fixed      : FixedWords
  alertRead  : ByThreshold
  alertWrite : ByThreshold
deriving DecidableEq, Repr

/-- STATUS_BIT of the six flags whose position the source leaves open (R8, R170); that of ALERT_PENDING
is fixed (R7, R171). -/
structure StatusBits where
  heaterEnabled      : Fin 16
  humidityAlert      : Fin 16
  temperatureAlert   : Fin 16
  resetDetected      : Fin 16
  commandFailed      : Fin 16
  writeDataCrcFailed : Fin 16
deriving DecidableEq, Repr

/-- WORD_ORDER (R55): which byte of a 16-bit word crosses the bus first. -/
inductive WordOrder where
  /-- The most significant byte (the default). -/
  | msbFirst
  /-- The least significant byte. -/
  | lsbFirst
deriving DecidableEq, Repr

/-- LC_POLICY (R26): which operations record their command as the last command. -/
inductive LcPolicy where
  /-- Only START_PERIODIC and BREAK record (the default). -/
  | startBreakOnly
  /-- Every operation that issues a command, FETCH excepted, records it. -/
  | allButFetch
deriving DecidableEq, Repr

/-- CONV_ARITH (R140): the arithmetic of the forward conversions. -/
inductive ConvArith where
  /-- Exact rational arithmetic (the default). -/
  | exact
  /-- Binary32, each operation of the source's formula rounded (93_implementation_defined.md U6). -/
  | binary32
deriving DecidableEq, Repr

/-- INV_ROUNDING (R146, R147): how the inverse conversions round. -/
inductive InvRounding where
  /-- Toward zero (the default, conflict C2). -/
  | truncate
  /-- To the nearest integer, halves away from zero. -/
  | nearest
deriving DecidableEq, Repr

/-- HOSTOP (R8, R72): the number `op` of each operation. The fields of the request word stand as the
format draws them (R70, R71; log 10). -/
structure OpNumbers where
  crc8               : Byte
  code2c             : Byte
  code2rh            : Byte
  c2code             : Byte
  rh2code            : Byte
  stdec              : Byte
  cmdenc             : Byte
  alpack             : Byte
  alunpack           : Byte
  singleShot         : Byte
  startPeriodic      : Byte
  fetch              : Byte
  brk                : Byte
  reset              : Byte
  heaterOn           : Byte
  heaterOff          : Byte
  statusRead         : Byte
  statusFresh        : Byte
  clearStatus        : Byte
  alertRead          : Byte
  alertWrite         : Byte
  isAlertPending     : Byte
  isHeaterOn         : Byte
  isHumidityAlert    : Byte
  isTemperatureAlert : Byte
  isResetDetected    : Byte
  isCommandFailed    : Byte
  isWriteCrcFailed   : Byte
deriving DecidableEq, Repr

/-- ERRCODE (R8, R250): the number of each error outcome in R_ERR; 0 is success. -/
structure ErrCodes where
  checksumMismatch    : BitVec 4
  busNotAcknowledging : BitVec 4
  busIOError          : BitVec 4
  noActiveAcquisition : BitVec 4
  cancelled           : BitVec 4
  deadlineExceeded    : BitVec 4
  invalidRequest      : BitVec 4
deriving DecidableEq, Repr

/-- The configuration record (R6): the parameters the source leaves open (R8), fixed for the life of the
block. -/
structure Params where
  /-- CRC_POLY (R130), without the top term. -/
  crcPoly        : Byte
  /-- CRC_SEED (R131). -/
  crcSeed        : Byte
  /-- CMD (R77, R78). -/
  cmd            : CmdTable
  /-- STATUS_BIT (R170). -/
  statusBit      : StatusBits
  /-- WORD_ORDER (R55). -/
  wordOrder      : WordOrder
  /-- LC_POLICY (R26). -/
  lcPolicy       : LcPolicy
  /-- ST_INVALIDATORS (R176). -/
  stInvalidators : List Op
  /-- CONV_ARITH (R140). -/
  convArith      : ConvArith
  /-- INV_ROUNDING (R146). -/
  invRounding    : InvRounding
  /-- HOSTOP (R72). -/
  hostop         : OpNumbers
  /-- ERRCODE (R250). -/
  errCode        : ErrCodes
deriving DecidableEq, Repr

/-! ## The environment -/

/-- The three answers of `BusWrite` (R50, R53). -/
inductive WriteAnswer where
  | ok
  | nack
  | ioErr
deriving DecidableEq, Repr, Inhabited

/-- The three answers of `BusRead` (R51, R53). -/
inductive ReadAnswer where
  | ok (bytes : List Byte)
  | nack
  | ioErr
deriving DecidableEq, Repr, Inhabited

/-- What the canceller does during one `CWait` (R261): nothing, the explicit cancel call or the
deadline, the last two at a time in microseconds from the start of the wait (0 for a signal that
fired before it). -/
inductive Signal where
  | quiet
  | cancelAt (us : Nat)
  | deadlineAt (us : Nat)
deriving DecidableEq, Repr, Inhabited

/-- FREE VALUE (R52, R307, log 2): what a `BusWrite` no script answers comes to; `none` is a transport
that never returns. -/
opaque freeWrite : Nat → Option WriteAnswer

/-- FREE VALUE (R52, R307, log 2): what a `BusRead` no script answers comes to; `none` is a transport
that never returns. -/
opaque freeRead : Nat → Option ReadAnswer

/-- FREE VALUE (R261, log 2): the canceller's move in a `CWait` no script answers. -/
opaque freeSignal : Nat → Signal

end Sys2Proof.Config
end

