-- ==== Sys2Proof/Machine/Bits.lean ====
section
/-! DEFINITION. Bit fields, byte order and the roundings of spec/00_scope.md R9, R10. -/

namespace Sys2Proof.Machine
open Sys2Proof.Config

/-- `word(b0, b1) = b0 * 256 + b1` (R9). -/
def word (b0 b1 : Byte) : Word := b0 ++ b1

/-- `hi8(w) = w[15:8]` (R9). -/
def hi8 (w : Word) : Byte := w.extractLsb' 8 8

/-- `lo8(w) = w[7:0]` (R9). -/
def lo8 (w : Word) : Byte := w.extractLsb' 0 8

/-- The word that crossed the bus as `d0` then `d1` (R55). -/
def busWord (o : WordOrder) (d0 d1 : Byte) : Word :=
  match o with
  | .msbFirst => word d0 d1
  | .lsbFirst => word d1 d0

/-- The byte of a word that crosses the bus first (R55). -/
def busByte0 (o : WordOrder) (w : Word) : Byte :=
  match o with
  | .msbFirst => hi8 w
  | .lsbFirst => lo8 w

/-- The byte of a word that crosses the bus second (R55). -/
def busByte1 (o : WordOrder) (w : Word) : Byte :=
  match o with
  | .msbFirst => lo8 w
  | .lsbFirst => hi8 w

/-- `rhaz(n / d)` of R10 for `d > 0`: round to the nearest integer, halves away from zero. -/
def rhazDiv (n : Int) (d : Nat) : Int :=
  if 0 ≤ n then ((2 * n.natAbs + d) / (2 * d) : Nat) else -(((2 * n.natAbs + d) / (2 * d) : Nat) : Int)

/-- `trunc(n / d)` of R10 for `d > 0`: round toward zero. -/
def truncDiv (n : Int) (d : Nat) : Int :=
  if 0 ≤ n then (n.natAbs / d : Nat) else -((n.natAbs / d : Nat) : Int)

/-- `floor(n / d + 1/2)` with halves to the even integer, for `d > 0`: the rounding of `b32` (R10). -/
def roundHalfEven (n d : Nat) : Nat :=
  let q := n / d
  let r := n % d
  if 2 * r < d then q
  else if d < 2 * r then q + 1
  else if q % 2 = 0 then q else q + 1

end Sys2Proof.Machine
end

