-- ==== Sys2Proof/Machine/Operands.lean ====
section
/-! DEFINITION. Operand assembly (spec/30_encoding.md R71, R75): the enumerations and their encodings,
and the value of a binary32 operand as an exact rational.

A finite binary32 is a whole multiple of 2^-149, so `val(f)` of R10 is the integer `f32Num f` over the
fixed denominator `f32Den`. -/

namespace Sys2Proof.Machine

/-- The resolution a `res` field or RESOLUTION encodes (R25); 3 is none. -/
def resolution? (res : BitVec 2) : Option Resolution :=
  match res.toNat with
  | 0 => some .low
  | 1 => some .medium
  | 2 => some .high
  | _ => none

/-- The encoding of a resolution (R25). -/
def resolutionBits : Resolution → BitVec 2
  | .low => 0#2
  | .medium => 1#2
  | .high => 2#2

/-- The cadence a `cad` field or CADENCE encodes (R24); 5 to 7 are none. -/
def cadence? (cad : BitVec 3) : Option Cadence :=
  match cad.toNat with
  | 0 => some .half
  | 1 => some .one
  | 2 => some .two
  | 3 => some .four
  | 4 => some .ten
  | _ => none

/-- The encoding of a cadence (R24). -/
def cadenceBits : Cadence → BitVec 3
  | .half => 0#3
  | .one => 1#3
  | .two => 2#3
  | .four => 3#3
  | .ten => 4#3

/-- The threshold a `thr` field encodes (R71): every value is one. -/
def threshold (thr : BitVec 2) : Threshold :=
  match thr.toNat with
  | 0 => .highSet
  | 1 => .highClear
  | 2 => .lowClear
  | _ => .lowSet

/-- The biased exponent of a binary32 pattern. -/
def f32Exp (f : Word32) : Nat := (f.extractLsb' 23 8).toNat

/-- The fraction field of a binary32 pattern. -/
def f32Frac (f : Word32) : Nat := (f.extractLsb' 0 23).toNat

/-- `f` is neither an infinity nor a NaN (R75). -/
def f32Finite (f : Word32) : Bool := f32Exp f != 255

/-- The denominator over which every finite binary32 is an integer, 2^149. -/
def f32Den : Nat := 2 ^ 149

/-- The magnitude of a finite binary32 in units of 2^-149. -/
def f32Mag (f : Word32) : Nat :=
  if f32Exp f = 0 then f32Frac f else (2 ^ 23 + f32Frac f) * 2 ^ (f32Exp f - 1)

/-- `val(f)` of a finite binary32 (R10), in units of 2^-149; `val(-0.0) = 0`. -/
def f32Num (f : Word32) : Int := if f.getLsbD 31 then -(f32Mag f : Int) else (f32Mag f : Int)

/-- A physical operand: `val(f)` in units of 2^-149 where `f` is finite and `lo <= val(f) <= hi`; none
where the operation must refuse it (R73, R148, R149, R233). -/
def physical? (lo hi : Int) (f : Word32) : Option Int :=
  if f32Finite f && decide (lo * f32Den ≤ f32Num f) && decide (f32Num f ≤ hi * f32Den) then
    some (f32Num f)
  else none

/-- A temperature operand in degrees Celsius, -45 to 130 (R148, R233). -/
def celsius? (f : Word32) : Option Int := physical? (-45) 130 f

/-- A relative-humidity operand in percent, 0 to 100 (R149, R233). -/
def percent? (f : Word32) : Option Int := physical? 0 100 f

end Sys2Proof.Machine
end

