-- ==== Sys2Proof/Machine/Convert.lean ====
section
/-! DEFINITION. The functions of the unit conversion unit (spec/41_conversion.md R140 to R149), in exact
integer arithmetic with the one rounding each formula names (R140), and the forward functions in binary32
too, the other value of CONV_ARITH. -/

namespace Sys2Proof.Machine
open Sys2Proof.Config

/-- The greatest `p` with `2^p <= n / d`, for `n, d > 0`. -/
def floorLog2Div (n d : Nat) : Int :=
  let k := Nat.log2 n
  let j := Nat.log2 d
  if d * 2 ^ (k - j) ≤ n * 2 ^ (j - k) then (k : Int) - j else (k : Int) - j - 1

/-- The exponent field and fraction of the binary32 nearest to `n / d`, for `d > 0`: the significand is
`n / d` in units of `2^u`, rounded to nearest with ties to even, and the pattern counts it from the
exponent of `u`, so that a carry out of the significand moves to the next exponent (IEEE 754). -/
def b32Mag (n d : Nat) : Nat :=
  if n = 0 then 0
  else
    let u : Int := max (floorLog2Div n d - 23) (-149)
    let q :=
      if 0 ≤ u then roundHalfEven n (d * 2 ^ u.toNat) else roundHalfEven (n * 2 ^ (-u).toNat) d
    min ((u + 149).toNat * 2 ^ 23 + q) 0x7F800000

/-- `b32(n / d)` (R10), for `d > 0`; a zero result is the positive zero (R143). -/
def b32 (n : Int) (d : Nat) : Word32 :=
  let m := b32Mag n.natAbs d
  if n < 0 ∧ m ≠ 0 then BitVec.ofNat 32 (2 ^ 31 + m) else BitVec.ofNat 32 m

/-- `b32(c / 100)`, the physical value of `c` hundredths (R143). -/
def b32Centi (c : Int) : Word32 := b32 c 100

/-- `t_centi(code)` in exact arithmetic (R141): hundredths of a degree Celsius. -/
def tCentiExact (code : Word) : Int := rhazDiv (17500 * (code.toNat : Int) - 294907500) 65535

/-- `rh_centi(code)` in exact arithmetic (R142): hundredths of a percent. -/
def rhCentiExact (code : Word) : Int := ((65535 + 2 * 10000 * code.toNat) / (2 * 65535) : Nat)

/-- The hundredths of `code * 175 / 65535 - 45` with each operation rounded to binary32, in the order
written, and `round2` of the result (93_implementation_defined.md U6). -/
def tCentiBinary32 (code : Word) : Int :=
  let prod := b32 (175 * (code.toNat : Int)) 1
  let quot := b32 (f32Num prod) (65535 * f32Den)
  let diff := b32 (f32Num quot - 45 * (f32Den : Int)) f32Den
  rhazDiv (100 * f32Num diff) f32Den

/-- The hundredths of `code * 100 / 65535` with each operation rounded to binary32 (U6). -/
def rhCentiBinary32 (code : Word) : Int :=
  let prod := b32 (100 * (code.toNat : Int)) 1
  let quot := b32 (f32Num prod) (65535 * f32Den)
  rhazDiv (100 * f32Num quot) f32Den

/-- `t_centi(code)` by CONV_ARITH (R140, R141). -/
def tCenti (a : ConvArith) (code : Word) : Int :=
  match a with
  | .exact => tCentiExact code
  | .binary32 => tCentiBinary32 code

/-- `rh_centi(code)` by CONV_ARITH (R140, R142). -/
def rhCenti (a : ConvArith) (code : Word) : Int :=
  match a with
  | .exact => rhCentiExact code
  | .binary32 => rhCentiBinary32 code

/-- The rounding of the inverse conversions, of `n / d` with `d > 0`, by INV_ROUNDING (R146, R147). -/
def invRound (r : InvRounding) (n : Int) (d : Nat) : Int :=
  match r with
  | .truncate => truncDiv n d
  | .nearest => rhazDiv n d

/-- `t_code(n / d)` (R146), for `-45 <= n / d <= 130` and `d > 0`. -/
def tCode (r : InvRounding) (n : Int) (d : Nat) : Int := invRound r ((n + 45 * d) * 65535) (175 * d)

/-- `rh_code(n / d)` (R147), for `0 <= n / d <= 100` and `d > 0`. -/
def rhCode (r : InvRounding) (n : Int) (d : Nat) : Int := invRound r (n * 65535) (100 * d)

end Sys2Proof.Machine
end

