-- ==== Sys2Proof/Machine/CmdTable.lean ====
section
/-! DEFINITION. The command table (spec/42_command_table.md): a read-only map from a mode or a fixed
function to its two-byte opcode (R164), the parameter CMD (R8). Words are written `word(c0, c1)` (R9). -/

namespace Sys2Proof.Machine
open Sys2Proof.Config

/-- The entry of a resolution. -/
def pickRes (t : ByResolution) : Resolution → Word
  | .low => t.low
  | .medium => t.medium
  | .high => t.high

/-- The entries of a cadence. -/
def pickCad (t : ByCadence) : Cadence → ByResolution
  | .half => t.half
  | .one => t.one
  | .two => t.two
  | .four => t.four
  | .ten => t.ten

/-- The entry of a fixed function. -/
def pickFixed (t : FixedWords) : FixedCmd → Word
  | .fetch => t.fetch
  | .brk => t.brk
  | .reset => t.reset
  | .heaterOn => t.heaterOn
  | .heaterOff => t.heaterOff
  | .statusRead => t.statusRead
  | .statusClear => t.statusClear

/-- The entry of a threshold. -/
def pickThr (t : ByThreshold) : Threshold → Word
  | .highSet => t.highSet
  | .highClear => t.highClear
  | .lowClear => t.lowClear
  | .lowSet => t.lowSet

/-- `cmd_single` (R160; R80 to R82). -/
def cmdSingle (t : CmdTable) (r : Resolution) : Word := pickRes t.single r

/-- `cmd_periodic` (R161; R83 to R97). -/
def cmdPeriodic (t : CmdTable) (c : Cadence) (r : Resolution) : Word := pickRes (pickCad t.periodic c) r

/-- `cmd_fixed` (R162; R98 to R104). -/
def cmdFixed (t : CmdTable) (f : FixedCmd) : Word := pickFixed t.fixed f

/-- `cmd_alert_read` (R162; R105 to R108). -/
def cmdAlertRead (t : CmdTable) (thr : Threshold) : Word := pickThr t.alertRead thr

/-- `cmd_alert_write` (R162; R109 to R112). -/
def cmdAlertWrite (t : CmdTable) (thr : Threshold) : Word := pickThr t.alertWrite thr

/-- The opcode of a command name (R77). -/
def cmdWord (t : CmdTable) : Cmd → Word
  | .single r => cmdSingle t r
  | .periodic c r => cmdPeriodic t c r
  | .fixed f => cmdFixed t f
  | .alertRead thr => cmdAlertRead t thr
  | .alertWrite thr => cmdAlertWrite t thr

/-- The resolutions (R25). -/
def resolutions : List Resolution := [.low, .medium, .high]

/-- The cadences (R24). -/
def cadences : List Cadence := [.half, .one, .two, .four, .ten]

/-- The functions with a command of their own (R162). -/
def fixedCmds : List FixedCmd :=
  [.fetch, .brk, .reset, .heaterOn, .heaterOff, .statusRead, .statusClear]

/-- The thresholds (R71). -/
def thresholds : List Threshold := [.highSet, .highClear, .lowClear, .lowSet]

/-- The 15 periodic-start commands (R161). -/
def periodicCmds : List Cmd := cadences.flatMap fun c => resolutions.map (Cmd.periodic c)

/-- The other 18 commands. -/
def otherCmds : List Cmd :=
  resolutions.map Cmd.single ++ fixedCmds.map Cmd.fixed ++ thresholds.map Cmd.alertRead
    ++ thresholds.map Cmd.alertWrite

/-- The 33 command names (R77). -/
def allCmds : List Cmd := periodicCmds ++ otherCmds

/-- The 15 periodic-start opcodes (R166). -/
def periodicWords (t : CmdTable) : List Word := periodicCmds.map (cmdWord t)

/-- `is_periodic(w)` (R166). -/
def isPeriodic (t : CmdTable) (w : Word) : Bool := (periodicWords t).contains w

/-- The bytes of a command opcode, in table order, `c0` first (R55, R77). -/
def cmdBytes (c : Word) : List Byte := [hi8 c, lo8 c]

end Sys2Proof.Machine
end

