-- ==== Sys2Proof/Machine/Constants.lean ====
section
/-! DEFINITION. The parameters the source fixes (spec/00_scope.md R7), the look-up of those it leaves
open, and their defaults (R8, log 10). Durations are in microseconds (R262, R310). -/

namespace Sys2Proof.Machine
open Sys2Proof.Config

/-- RETRY_BUDGET (R7). -/
def retryBudget : Nat := 5

/-- BACKOFF_DIV (R7). -/
def backoffDiv : Nat := 10

/-- T_CONV (R7, R25). -/
def tConv : Resolution → Nat
  | .low => 4500
  | .medium => 6500
  | .high => 15500

/-- T_INTERVAL (R7, R24). -/
def tInterval : Cadence → Nat
  | .half => 2000000
  | .one => 1000000
  | .two => 500000
  | .four => 250000
  | .ten => 100000

/-- T_RESET (R7). -/
def tReset : Nat := 1500

/-- T_ALERT_WRITE (R7). -/
def tAlertWrite : Nat := 1000

/-- The seven status flags, in the source's order (R36). -/
inductive StatusFlag where
  | alertPending
  | heaterEnabled
  | humidityAlert
  | temperatureAlert
  | resetDetected
  | commandFailed
  | writeDataCrcFailed
deriving DecidableEq, Repr

/-- The index `f` of a flag in R_FLAGS (R36). -/
def flagIndex : StatusFlag → Nat
  | .alertPending => 0
  | .heaterEnabled => 1
  | .humidityAlert => 2
  | .temperatureAlert => 3
  | .resetDetected => 4
  | .commandFailed => 5
  | .writeDataCrcFailed => 6

/-- STATUS_BIT(f), the position of a flag in the status word (R170); ALERT_PENDING's is fixed (R7). -/
def statusBit (b : StatusBits) : StatusFlag → Nat
  | .alertPending => 15
  | .heaterEnabled => b.heaterEnabled
  | .humidityAlert => b.humidityAlert
  | .temperatureAlert => b.temperatureAlert
  | .resetDetected => b.resetDetected
  | .commandFailed => b.commandFailed
  | .writeDataCrcFailed => b.writeDataCrcFailed

/-- The number of an operation (R72). -/
def opNumber (h : OpNumbers) : Op → Byte
  | .crc8 => h.crc8
  | .code2c => h.code2c
  | .code2rh => h.code2rh
  | .c2code => h.c2code
  | .rh2code => h.rh2code
  | .stdec => h.stdec
  | .cmdenc => h.cmdenc
  | .alpack => h.alpack
  | .alunpack => h.alunpack
  | .singleShot => h.singleShot
  | .startPeriodic => h.startPeriodic
  | .fetch => h.fetch
  | .brk => h.brk
  | .reset => h.reset
  | .heaterOn => h.heaterOn
  | .heaterOff => h.heaterOff
  | .statusRead => h.statusRead
  | .statusFresh => h.statusFresh
  | .clearStatus => h.clearStatus
  | .alertRead => h.alertRead
  | .alertWrite => h.alertWrite
  | .isAlertPending => h.isAlertPending
  | .isHeaterOn => h.isHeaterOn
  | .isHumidityAlert => h.isHumidityAlert
  | .isTemperatureAlert => h.isTemperatureAlert
  | .isResetDetected => h.isResetDetected
  | .isCommandFailed => h.isCommandFailed
  | .isWriteCrcFailed => h.isWriteCrcFailed

/-- The error outcomes (R250). -/
inductive ErrCode where
  | checksumMismatch
  | busNotAcknowledging
  | busIOError
  | noActiveAcquisition
  | cancelled
  | deadlineExceeded
  | invalidRequest
deriving DecidableEq, Repr

/-- `code(E)` (R250). -/
def errCode (c : ErrCodes) : ErrCode → BitVec 4
  | .checksumMismatch => c.checksumMismatch
  | .busNotAcknowledging => c.busNotAcknowledging
  | .busIOError => c.busIOError
  | .noActiveAcquisition => c.noActiveAcquisition
  | .cancelled => c.cancelled
  | .deadlineExceeded => c.deadlineExceeded
  | .invalidRequest => c.invalidRequest

/-! ## The default values of R8 -/

/-- CMD (R80 to R112). -/
def defaultCmd : CmdTable :=
  { single := { low := 0x2416#16, medium := 0x240B#16, high := 0x2400#16 }
    periodic :=
      { half := { low := 0x202F#16, medium := 0x2024#16, high := 0x2032#16 }
        one := { low := 0x212D#16, medium := 0x2126#16, high := 0x2130#16 }
        two := { low := 0x222B#16, medium := 0x2220#16, high := 0x2236#16 }
        four := { low := 0x2329#16, medium := 0x2322#16, high := 0x2334#16 }
        ten := { low := 0x272A#16, medium := 0x2721#16, high := 0x2737#16 } }
    fixed :=
      { fetch := 0xE000#16, brk := 0x3093#16, reset := 0x30A2#16, heaterOn := 0x306D#16
        heaterOff := 0x3066#16, statusRead := 0xF32D#16, statusClear := 0x3041#16 }
    alertRead :=
      { highSet := 0xE11F#16, highClear := 0xE114#16, lowClear := 0xE109#16, lowSet := 0xE102#16 }
    alertWrite :=
      { highSet := 0x611D#16, highClear := 0x6116#16, lowClear := 0x610B#16, lowSet := 0x6100#16 } }

/-- STATUS_BIT (R170). -/
def defaultStatusBits : StatusBits :=
  { heaterEnabled := 13, humidityAlert := 11, temperatureAlert := 10, resetDetected := 4
    commandFailed := 1, writeDataCrcFailed := 0 }

/-- ST_INVALIDATORS (R176). -/
def defaultInvalidators : List Op :=
  [.singleShot, .startPeriodic, .heaterOn, .heaterOff, .clearStatus, .statusFresh, .isAlertPending,
   .isHeaterOn, .isHumidityAlert, .isTemperatureAlert, .isResetDetected, .isCommandFailed,
   .isWriteCrcFailed]

/-- HOSTOP (R72). -/
def defaultOpNumbers : OpNumbers :=
  { crc8 := 0x01#8
    code2c := 0x02#8
    code2rh := 0x03#8
    c2code := 0x04#8
    rh2code := 0x05#8
    stdec := 0x06#8
    cmdenc := 0x07#8
    alpack := 0x08#8
    alunpack := 0x09#8
    singleShot := 0x10#8
    startPeriodic := 0x11#8
    fetch := 0x12#8
    brk := 0x13#8
    reset := 0x14#8
    heaterOn := 0x15#8
    heaterOff := 0x16#8
    statusRead := 0x17#8
    statusFresh := 0x18#8
    clearStatus := 0x19#8
    alertRead := 0x1A#8
    alertWrite := 0x1B#8
    isAlertPending := 0x20#8
    isHeaterOn := 0x21#8
    isHumidityAlert := 0x22#8
    isTemperatureAlert := 0x23#8
    isResetDetected := 0x24#8
    isCommandFailed := 0x25#8
    isWriteCrcFailed := 0x26#8 }

/-- ERRCODE (R250). -/
def defaultErrCodes : ErrCodes :=
  { checksumMismatch := 1#4
    busNotAcknowledging := 2#4
    busIOError := 3#4
    noActiveAcquisition := 4#4
    cancelled := 5#4
    deadlineExceeded := 6#4
    invalidRequest := 15#4 }

/-- The default values of R8; CRC_POLY is x^8 + x^5 + x^4 + 1 without its top term (log 10). -/
def defaultParams : Params :=
  { crcPoly := 0x31#8
    crcSeed := 0xFF#8
    cmd := defaultCmd
    statusBit := defaultStatusBits
    wordOrder := .msbFirst
    lcPolicy := .startBreakOnly
    stInvalidators := defaultInvalidators
    convArith := .exact
    invRounding := .truncate
    hostop := defaultOpNumbers
    errCode := defaultErrCodes }

end Sys2Proof.Machine
end

