-- ==== Sys2Proof/Machine/Crc.lean ====
section
/-! DEFINITION. The checksum unit's function (spec/40_checksum.md R130 to R133). -/

namespace Sys2Proof.Machine
open Sys2Proof.Config

/-- One shift step of R130: the top bit leaves, and the polynomial is added where it was 1. -/
def crcShift (poly c : Byte) : Byte := if c.getLsbD 7 then (c <<< 1) ^^^ poly else c <<< 1

/-- `n` shift steps. -/
def crcShifts (poly : Byte) : Nat → Byte → Byte
  | 0, c => c
  | n + 1, c => crcShifts poly n (crcShift poly c)

/-- One byte of the payload: exclusive-or, then eight shift steps (R130). -/
def crcByte (poly c b : Byte) : Byte := crcShifts poly 8 (c ^^^ b)

/-- `crc8(seed, [b0, b1])` at a polynomial (R130). -/
def crc8 (poly seed b0 b1 : Byte) : Byte := crcByte poly (crcByte poly seed b0) b1

/-- `crc8(CRC_SEED, [d0, d1])`, the checksum of a data block (R131, R134). -/
def blockCrc (p : Params) (d0 d1 : Byte) : Byte := crc8 p.crcPoly p.crcSeed d0 d1

/-- `crc_ok([d0, d1, k])` (R133). -/
def crcOk (p : Params) (d0 d1 k : Byte) : Bool := blockCrc p d0 d1 == k

end Sys2Proof.Machine
end

