-- ==== Sys2Proof/Machine/State.lean ====
section
/-! DEFINITION. The state of the block (spec/10_state.md), plain data, and its reset (R39, R290). The
block has no memory and no program counter (R41, R57). -/

namespace Sys2Proof.Machine
open Sys2Proof.Config

/-- FSM, the state of the protocol engine (R30); encoded 0 to 3 in this order. -/
inductive Fsm where
  | idle
  | singleShotPending
  | continuousRunning
  | fetchPending
deriving DecidableEq, Repr

/-- The outcome of a wait (R260, R261). -/
inductive WaitOutcome where
  | elapsed
  | cancelled
  | deadlineExceeded
deriving DecidableEq, Repr

/-- The events of the trace (R38): `Write(bytes, answer)`, `Read(n, answer)`,
`Waited(nominal, actual, outcome)` with times in microseconds. -/
inductive Event where
  | write (bytes : List Byte) (answer : WriteAnswer)
  | read (n : Nat) (answer : ReadAnswer)
  | waited (nominal actual : Nat) (outcome : WaitOutcome)
deriving DecidableEq, Repr

/-- What is asked of the block, one input a step: the host's writes of its three registers (R33, R300).
`emit c` is the model's own (log 7): one run of the operation that emits the command `c`, asked for by
the command's name. No command word arrives at the block (R113). -/
inductive Input where
  | writeA0 (v : Word32)
  | writeA1 (v : Word32)
  | writeReq (w : Word32)
  | emit (c : Cmd)
deriving DecidableEq, Repr

/-- Why the machine stops. -/
inductive Fault where
  /-- Raised by `step`: an input arrived while BUSY = 1, which a transport that never returned has left
  so (93_implementation_defined.md U1, R301, R307). Safe: the spec defines no behaviour there. -/
  | overlappingRequest
deriving DecidableEq, Repr

/-- Why the machine has no meaning for an input. -/
inductive Refusal where
  /-- Raised by an arm of `exec` whose instruction has no meaning yet; none has. Safe. -/
  | notModelled (mnemonic : String)
deriving DecidableEq, Repr

/-- The state. The four groups of registers of R20, then the model's own fields. -/
structure State where
  -- handle registers (R21)
  /-- ST_VALID and ST_WORD as one option (R22). -/
  stCache : Option Word
  /-- LC_VALID and LC_CMD as one option (R23). -/
  lastCmd : Option Word
  /-- CADENCE (R24). -/
  cadence : BitVec 3
  /-- RESOLUTION (R25). -/
  resolution : BitVec 2
  -- engine registers (R28 to R30)
  /-- BUSY (R28). -/
  busy : Bool
  /-- FSM (R30). -/
  fsm : Fsm
  /-- RETRY (R29). -/
  retry : BitVec 3
  /-- WAIT_US (R29). -/
  waitUs : BitVec 21
  -- request registers (R33)
  /-- REQ. -/
  req : Word32
  /-- A0. -/
  a0 : Word32
  /-- A1. -/
  a1 : Word32
  -- result registers (R34)
  /-- R_ERR. -/
  rErr : BitVec 4
  /-- R_TCODE. -/
  rTcode : Word
  /-- R_RHCODE. -/
  rRhcode : Word
  /-- R_TCENTI, two's complement. -/
  rTcenti : Word
  /-- R_RHCENTI. -/
  rRhcenti : Word
  /-- R_TF32, a binary32 pattern. -/
  rTf32 : Word32
  /-- R_RHF32, a binary32 pattern. -/
  rRhf32 : Word32
  /-- R_WORD. -/
  rWord : Word
  /-- R_FLAGS (R36). -/
  rFlags : BitVec 7
  /-- R_CRC. -/
  rCrc : Byte
  /-- R_BOOL. -/
  rBool : Bool
  /-- R_CMD. -/
  rCmd : Word
  -- the model's own fields
  /-- The configuration record (R6, R8); no step writes it (log 9). -/
  params : Params
  /-- What is still to be asked of the block, first first (log 1). -/
  inputs : List Input
  /-- What the coming BusWrite calls come to, first first (log 2); `none` is a transport that never
  returns (R307). -/
  writeScript : List (Option WriteAnswer)
  /-- What the coming BusRead calls come to, first first (log 2); `none` is a transport that never
  returns (R307). -/
  readScript : List (Option ReadAnswer)
  /-- The canceller's moves in the coming CWait calls, first first (log 2). -/
  waitScript : List Signal
  /-- How many draws were taken from the environment beyond its scripts (log 2). -/
  draws : Nat
  /-- The events so far, first first (R38). -/
  trace : List Event
deriving DecidableEq, Repr

/-- Reset, the creation of the handle (R39, R290). ST_VALID, LC_VALID, FSM, BUSY and R_ERR are the
spec's; the zeros of the other registers are DESIGN CHOICE (log 5), unsafe: R39 leaves them
unspecified. -/
def State.reset : State :=
  { stCache := none
    lastCmd := none
    cadence := 0#3
    resolution := 0#2
    busy := false
    fsm := .idle
    retry := 0#3
    waitUs := 0#21
    req := 0#32
    a0 := 0#32
    a1 := 0#32
    rErr := 0#4
    rTcode := 0#16
    rRhcode := 0#16
    rTcenti := 0#16
    rRhcenti := 0#16
    rTf32 := 0#32
    rRhf32 := 0#32
    rWord := 0#16
    rFlags := 0#7
    rCrc := 0#8
    rBool := false
    rCmd := 0#16
    params := defaultParams
    inputs := []
    writeScript := []
    readScript := []
    waitScript := []
    draws := 0
    trace := [] }

end Sys2Proof.Machine
end

