-- ==== Sys2Proof/Machine/Ops.lean ====
section
/-! DEFINITION. The primitives of spec/00_scope.md R11 and the steps that operations share. Ending an
operation with an error (`raise`, R255) is the whole of taking an exception on this block: nothing is
saved and nothing is vectored, and there is no return (R264). -/

namespace Sys2Proof.Machine
open Sys2Proof.Config

/-! ## The session -/

/-- The cadence and resolution of the active session, if one is active. `session_active()` (R32): a
command is recorded, it is a periodic-start opcode, and it is the one CADENCE and RESOLUTION imply. -/
def activeSession (s : State) : Option (Cadence × Resolution) :=
  match s.lastCmd with
  | none => none
  | some c =>
    if isPeriodic s.params.cmd c then
      match cadence? s.cadence, resolution? s.resolution with
      | some cad, some res => if c = cmdPeriodic s.params.cmd cad res then some (cad, res) else none
      | _, _ => none
    else none

/-- `session_active()` (R32). -/
def sessionActive (s : State) : Bool := (activeSession s).isSome

/-- `quiescent()` (R31). -/
def quiescent (s : State) : Fsm := if sessionActive s then .continuousRunning else .idle

/-! ## How an operation ends -/

/-- The end of an operation with R_ERR = `code`: FSM goes to `quiescent()` and BUSY to 0 (R255). -/
def endWith (code : BitVec 4) (s : State) : State :=
  { s with rErr := code, fsm := quiescent s, busy := false }

/-- `raise E` (R255): the error outcome; everything written before stays written. -/
def raise (e : ErrCode) (s : State) : State := endWith (errCode s.params.errCode e) s

/-- `done` (R255): the end with success. -/
def done (s : State) : State := endWith 0#4 s

/-- An operation whose transport never returns (R307): BUSY stays 1, and everything else stands as the
operation left it. -/
def hang (s : State) : State := { s with busy := true }

/-! ## The environment's draws (R52, R261, log 2) -/

/-- What the next BusWrite comes to; `none` is a transport that never returns. -/
def drawWrite (s : State) : Option WriteAnswer × State :=
  match s.writeScript with
  | a :: rest => (a, { s with writeScript := rest })
  | [] => (freeWrite s.draws, { s with draws := s.draws + 1 })

/-- What the next BusRead comes to; `none` is a transport that never returns. -/
def drawRead (s : State) : Option ReadAnswer × State :=
  match s.readScript with
  | a :: rest => (a, { s with readScript := rest })
  | [] => (freeRead s.draws, { s with draws := s.draws + 1 })

/-- The canceller's move in the next CWait. -/
def drawSignal (s : State) : Signal × State :=
  match s.waitScript with
  | a :: rest => (a, { s with waitScript := rest })
  | [] => (freeSignal s.draws, { s with draws := s.draws + 1 })

/-! ## The four primitives (R11) -/

/-- Appends an event to the trace (R38). -/
def logEvent (e : Event) (s : State) : State := { s with trace := s.trace ++ [e] }

/-- `BusWrite(bytes)` (R50). A call that never returns (R307) has no answer and so no event. -/
def busWrite (bytes : List Byte) (s : State) : Option WriteAnswer × State :=
  match drawWrite s with
  | (none, s1) => (none, s1)
  | (some a, s1) => (some a, logEvent (.write bytes a) s1)

/-- The answer as it reaches the block: `Ok` has exactly the requested length (R51); a transfer of
another length is reported as `IoErr` (93_implementation_defined.md U12, log 3). -/
def fitRead (n : Nat) : ReadAnswer → ReadAnswer
  | .ok bytes => if bytes.length = n then .ok bytes else .ioErr
  | .nack => .nack
  | .ioErr => .ioErr

/-- `BusRead(n)` (R51). A call that never returns (R307) has no answer and so no event. -/
def busRead (n : Nat) (s : State) : Option ReadAnswer × State :=
  match drawRead s with
  | (none, s1) => (none, s1)
  | (some a, s1) => (some (fitRead n a), logEvent (.read n (fitRead n a)) s1)

/-- `Wait(us)`, the uninterruptible wait (R260). -/
def wait (us : Nat) (s : State) : State := logEvent (.waited us us .elapsed) s

/-- The outcome of a cancellable wait and the time waited (R261): a signal aborts the wait only where
it fires before the duration has passed (log 4). -/
def waitResult (us : Nat) : Signal → WaitOutcome × Nat
  | .quiet => (.elapsed, us)
  | .cancelAt e => if e < us then (.cancelled, e) else (.elapsed, us)
  | .deadlineAt e => if e < us then (.deadlineExceeded, e) else (.elapsed, us)

/-- `CWait(us)`, the cancellable wait (R261). -/
def cwait (us : Nat) (s : State) : WaitOutcome × State :=
  let (g, s1) := drawSignal s
  let (o, e) := waitResult us g
  (o, logEvent (.waited us e o) s1)

/-! ## Steps that operations share -/

/-- `ST_VALID <- 0` (R176). -/
def invalidate (s : State) : State := { s with stCache := none }

/-- The first step of a protocol operation (R176): the operations of ST_INVALIDATORS invalidate (log 21). -/
def start (o : Op) (s : State) : State := if o ∈ s.params.stInvalidators then invalidate s else s

/-- `record(c)`: `LC_VALID <- 1; LC_CMD <- word(c)` (R26). -/
def record (c : Word) (s : State) : State := { s with lastCmd := some c }

/-- `record(c)`, performed only under `LC_POLICY = AllButFetch` (R26). -/
def recordAbf (c : Word) (s : State) : State :=
  match s.params.lcPolicy with
  | .startBreakOnly => s
  | .allButFetch => record c s

/-- `BusWrite(bytes)`; a failure ends the operation (R252, R253), no return hangs it (R307),
otherwise it goes on with `k`. -/
def writeThen (bytes : List Byte) (s : State) (k : State → State) : State :=
  match busWrite bytes s with
  | (none, s1) => hang s1
  | (some .ok, s1) => k s1
  | (some .nack, s1) => raise .busNotAcknowledging s1
  | (some .ioErr, s1) => raise .busIOError s1

/-- `BusRead(n)`; a failure ends the operation (R252, R253), no return hangs it (R307),
otherwise it goes on with `k`. -/
def readThen (n : Nat) (s : State) (k : List Byte → State → State) : State :=
  match busRead n s with
  | (none, s1) => hang s1
  | (some (.ok bytes), s1) => k bytes s1
  | (some .nack, s1) => raise .busNotAcknowledging s1
  | (some .ioErr, s1) => raise .busIOError s1

/-- The word of the data block that starts at byte `i` of a frame, if its checksum is good (R55, R56). -/
def blockWord (p : Params) (bytes : List Byte) (i : Nat) : Option Word :=
  let d0 := bytes.getD i 0#8
  let d1 := bytes.getD (i + 1) 0#8
  if crcOk p d0 d1 (bytes.getD (i + 2) 0#8) then some (busWord p.wordOrder d0 d1) else none

end Sys2Proof.Machine
end

