-- ==== Sys2Proof/Machine/Conversion.lean ====
section
/-! DEFINITION. The unit conversion unit's operations (spec/41_conversion.md R144 to R149), and the
writes of its results that the measurement and alert operations share. -/

namespace Sys2Proof.Machine

/-- R_TCENTI and R_TF32 from a temperature code (R144, R202, R232). -/
def putCelsius (code : Word) (s : State) : State :=
  let c := tCenti s.params.convArith code
  { s with rTcenti := BitVec.ofInt 16 c, rTf32 := b32Centi c }

/-- R_RHCENTI and R_RHF32 from a humidity code (R145, R202, R232). -/
def putPercent (code : Word) (s : State) : State :=
  let c := rhCenti s.params.convArith code
  { s with rRhcenti := BitVec.ofInt 16 c, rRhf32 := b32Centi c }

/-- The temperature code of `n` units of 2^-149 degrees (R146). -/
def tCodeWord (r : Config.InvRounding) (n : Int) : Word := BitVec.ofInt 16 (tCode r n f32Den)

/-- The humidity code of `n` units of 2^-149 percent (R147). -/
def rhCodeWord (r : Config.InvRounding) (n : Int) : Word := BitVec.ofInt 16 (rhCode r n f32Den)

/-- CODE2C (R144). -/
def execCode2c (code : Word) (s : State) : Host.Outcome State Fault Refusal :=
  .next (done (putCelsius code s))

/-- CODE2RH (R145). -/
def execCode2rh (code : Word) (s : State) : Host.Outcome State Fault Refusal :=
  .next (done (putPercent code s))

/-- C2CODE (R148). -/
def execC2code (s : State) : Host.Outcome State Fault Refusal :=
  .next <|
    match celsius? s.a0 with
    | none => raise .invalidRequest s
    | some n => done { s with rTcode := tCodeWord s.params.invRounding n }

/-- RH2CODE (R149). -/
def execRh2code (s : State) : Host.Outcome State Fault Refusal :=
  .next <|
    match percent? s.a0 with
    | none => raise .invalidRequest s
    | some n => done { s with rRhcode := rhCodeWord s.params.invRounding n }

end Sys2Proof.Machine
end

