-- ==== Sys2Proof/Machine/Alert.lean ====
section
/-! DEFINITION. The alert-limit codec's operations (spec/45_alert_codec.md). -/

namespace Sys2Proof.Machine

/-- The two codes of an alert word into R_TCODE and R_RHCODE (R232, R235). -/
def putAlertCodes (w : Word) (s : State) : State :=
  { s with rTcode := alertTcode w, rRhcode := alertRhcode w }

/-- The results of ALERT_READ from the word that was read (R232). -/
def putAlert (w : Word) (s : State) : State :=
  putPercent (alertRhcode w) (putCelsius (alertTcode w) (putAlertCodes w { s with rWord := w }))

/-- ALERT_READ of a threshold (R232). -/
def alertReadOp (thr : Threshold) (s : State) : State :=
  let c := cmdAlertRead s.params.cmd thr
  writeThen (cmdBytes c) (start .alertRead s) fun s1 =>
    readThen 3 (recordAbf c s1) fun bytes s2 =>
      match blockWord s2.params bytes 0 with
      | none => raise .checksumMismatch s2
      | some w => done (putAlert w s2)

/-- The checksum sent with a word: of its two bytes in bus order (R55, R134, R233). -/
def wordCrc (p : Config.Params) (w : Word) : Byte :=
  blockCrc p (busByte0 p.wordOrder w) (busByte1 p.wordOrder w)

/-- The frame W5 (R54): the opcode, the word, its checksum, in a list of its own (R63). -/
def alertFrame (p : Config.Params) (c w : Word) : List Byte :=
  cmdBytes c ++ [busByte0 p.wordOrder w, busByte1 p.wordOrder w, wordCrc p w]

/-- ALERT_WRITE of a threshold, from A0 and A1 (R233). -/
def alertWriteOp (thr : Threshold) (s : State) : State :=
  match celsius? s.a0, percent? s.a1 with
  | some t, some h =>
    let tc := tCodeWord s.params.invRounding t
    let hc := rhCodeWord s.params.invRounding h
    let w := alPack tc hc
    let c := cmdAlertWrite s.params.cmd thr
    writeThen (alertFrame s.params c w) (start .alertWrite s) fun s1 =>
      let s2 := wait tAlertWrite (recordAbf c s1)
      done { s2 with rTcode := tc, rRhcode := hc, rWord := w, rCrc := wordCrc s.params w }
  | _, _ => raise .invalidRequest s

/-- ALPACK (R234). -/
def execAlpack (s : State) : Host.Outcome State Fault Refusal :=
  .next (done { s with rWord := alPack (s.a0.extractLsb' 0 16) (s.a0.extractLsb' 16 16) })

/-- ALUNPACK (R235). -/
def execAlunpack (w : Word) (s : State) : Host.Outcome State Fault Refusal :=
  .next (done (putAlertCodes w s))

/-- ALERT_READ (R232). -/
def execAlertRead (thr : BitVec 2) (s : State) : Host.Outcome State Fault Refusal :=
  .next (alertReadOp (threshold thr) s)

/-- ALERT_WRITE (R233). -/
def execAlertWrite (thr : BitVec 2) (s : State) : Host.Outcome State Fault Refusal :=
  .next (alertWriteOp (threshold thr) s)

end Sys2Proof.Machine
end

