-- ==== Sys2Proof/Machine/Checksum.lean ====
section
/-! DEFINITION. The checksum unit's operation (spec/40_checksum.md). -/

namespace Sys2Proof.Machine

/-- CRC8 (R132). -/
def execCrc8 (seed b0 b1 : Byte) (s : State) : Host.Outcome State Fault Refusal :=
  .next (done { s with rCrc := crc8 s.params.crcPoly seed b0 b1 })

end Sys2Proof.Machine
end

