-- ==== Sys2Proof/Machine/CommandTable.lean ====
section
/-! DEFINITION. The command table's host operation (spec/42_command_table.md R165). -/

namespace Sys2Proof.Machine

/-- The lookup of CMDENC's table (R165); none for an illegal class, an illegal selector, or a selector
that the class does not need and that is not zero. -/
def cmdencLookup (t : Config.CmdTable) (cls : BitVec 4) (res : BitVec 2) (cad : BitVec 3) (thr : BitVec 2) :
    Option Word :=
  let fixed (c : FixedCmd) : Option Word :=
    if res = 0#2 ∧ cad = 0#3 ∧ thr = 0#2 then some (cmdFixed t c) else none
  match cls.toNat with
  | 0 => if cad = 0#3 ∧ thr = 0#2 then (resolution? res).map (cmdSingle t) else none
  | 1 =>
    if thr = 0#2 then
      match cadence? cad, resolution? res with
      | some c, some r => some (cmdPeriodic t c r)
      | _, _ => none
    else none
  | 2 => fixed .fetch
  | 3 => fixed .brk
  | 4 => fixed .reset
  | 5 => fixed .heaterOn
  | 6 => fixed .heaterOff
  | 7 => fixed .statusRead
  | 8 => fixed .statusClear
  | 9 => if res = 0#2 ∧ cad = 0#3 then some (cmdAlertRead t (threshold thr)) else none
  | 10 => if res = 0#2 ∧ cad = 0#3 then some (cmdAlertWrite t (threshold thr)) else none
  | _ => none

/-- CMDENC (R165): the encoder alone, nothing is sent. -/
def execCmdenc (cls : BitVec 4) (res : BitVec 2) (cad : BitVec 3) (thr : BitVec 2) (s : State) :
    Host.Outcome State Fault Refusal :=
  .next <|
    match cmdencLookup s.params.cmd cls res cad thr with
    | none => raise .invalidRequest s
    | some c => done { s with rCmd := c }

end Sys2Proof.Machine
end

