-- ==== Sys2Proof/Machine/Engine.lean ====
section
/-! DEFINITION. The measurement protocol engine's operations (spec/44_protocol_engine.md). -/

namespace Sys2Proof.Machine

/-- `decode_sample(bytes)` (R201): both blocks checked, the temperature block first; none is
`ChecksumMismatch`. -/
def decodeSample (p : Config.Params) (bytes : List Byte) : Option (Word × Word) :=
  match blockWord p bytes 0 with
  | none => none
  | some tc =>
    match blockWord p bytes 3 with
    | none => none
    | some hc => some (tc, hc)

/-- `deliver_sample(tc, hc, conv)` (R202). -/
def deliverSample (conv : Bool) (tc hc : Word) (s : State) : State :=
  let s1 := { s with rTcode := tc, rRhcode := hc }
  if conv then putPercent hc (putCelsius tc s1) else s1

/-- The end of a measurement, from its six bytes (R200, R206). -/
def finishSample (conv : Bool) (bytes : List Byte) (s : State) : State :=
  match decodeSample s.params bytes with
  | none => raise .checksumMismatch s
  | some (tc, hc) => done (deliverSample conv tc hc s)

/-- SINGLE_SHOT at a resolution (R200). -/
def singleShotOp (res : Resolution) (conv : Bool) (s : State) : State :=
  let c := cmdSingle s.params.cmd res
  writeThen (cmdBytes c) { start .singleShot s with fsm := .singleShotPending } fun s1 =>
    readThen 6 (wait (tConv res) (recordAbf c s1)) (finishSample conv)

/-- START_PERIODIC at a cadence and a resolution (R203): the session descriptor and the opcode are
recorded together, after the wait. -/
def startPeriodicOp (cad : Cadence) (res : Resolution) (s : State) : State :=
  let c := cmdPeriodic s.params.cmd cad res
  writeThen (cmdBytes c) (start .startPeriodic s) fun s1 =>
    let s2 := wait (tConv res) s1
    done (record c { s2 with cadence := cadenceBits cad, resolution := resolutionBits res })

/-- The retry loop of FETCH (R205). `n` is the number of retries left, the value of RETRY; the wait is
divided by BACKOFF_DIV after the first wait only, and no wait follows the last failed read. -/
def fetchLoop (conv : Bool) (n : Nat) (s : State) : State :=
  match busRead 6 s with
  | (none, s1) => hang s1
  | (some (.ok bytes), s1) => finishSample conv bytes s1
  | (some .ioErr, s1) => raise .busIOError s1
  | (some .nack, s1) =>
    match n with
    | 0 => raise .busNotAcknowledging s1
    | m + 1 =>
      match cwait s1.waitUs.toNat s1 with
      | (.cancelled, s2) => raise .cancelled s2
      | (.deadlineExceeded, s2) => raise .deadlineExceeded s2
      | (.elapsed, s2) =>
        fetchLoop conv m
          { s2 with
            waitUs := if m + 1 = retryBudget then s2.waitUs / BitVec.ofNat 21 backoffDiv else s2.waitUs
            retry := BitVec.ofNat 3 m }

/-- FETCH from its passed validation on: the fetch command once, then the retry loop (R205). The fetch
command is never recorded (R26). -/
def fetchSession (conv : Bool) (cad : Cadence) (s : State) : State :=
  writeThen (cmdBytes (cmdFixed s.params.cmd .fetch)) { s with fsm := .fetchPending } fun s1 =>
    fetchLoop conv retryBudget
      { s1 with retry := BitVec.ofNat 3 retryBudget, waitUs := BitVec.ofNat 21 (tInterval cad) }

/-- FETCH (R204 to R206): the session test first. -/
def fetchOp (conv : Bool) (s : State) : State :=
  match activeSession s with
  | none => raise .noActiveAcquisition (start .fetch s)
  | some (cad, _) => fetchSession conv cad (start .fetch s)

/-- BREAK (R207): sent in every state; recorded under both values of LC_POLICY. -/
def breakOp (s : State) : State :=
  let c := cmdFixed s.params.cmd .brk
  writeThen (cmdBytes c) (start .brk s) fun s1 => done (record c s1)

/-- RESET, the sensor's reset command (R208): the block itself is not reset. -/
def resetOp (s : State) : State :=
  let c := cmdFixed s.params.cmd .reset
  writeThen (cmdBytes c) (start .reset s) fun s1 => done (wait tReset (recordAbf c s1))

/-- SINGLE_SHOT (R200); `res = 3` is an illegal request (R73). -/
def execSingleShot (res : BitVec 2) (conv : Bool) (s : State) : Host.Outcome State Fault Refusal :=
  .next <|
    match resolution? res with
    | none => raise .invalidRequest s
    | some r => singleShotOp r conv s

/-- START_PERIODIC (R203); `res = 3` and `cad >= 5` are illegal requests (R73). -/
def execStartPeriodic (cad : BitVec 3) (res : BitVec 2) (s : State) :
    Host.Outcome State Fault Refusal :=
  .next <|
    match cadence? cad, resolution? res with
    | some c, some r => startPeriodicOp c r s
    | _, _ => raise .invalidRequest s

/-- FETCH (R204 to R206). -/
def execFetch (conv : Bool) (s : State) : Host.Outcome State Fault Refusal := .next (fetchOp conv s)

/-- BREAK (R207). -/
def execBreak (s : State) : Host.Outcome State Fault Refusal := .next (breakOp s)

/-- RESET (R208). -/
def execReset (s : State) : Host.Outcome State Fault Refusal := .next (resetOp s)

end Sys2Proof.Machine
end

