-- ==== Sys2Proof/Machine/Flags.lean ====
section
/-! DEFINITION. The seven status flags, the only flags of the block (spec/10_state.md R36), decoded from
a status word (spec/43_status.md R170 to R172). -/

namespace Sys2Proof.Machine
open Sys2Proof.Config

/-- The flag of a status word (R170). -/
def statusFlag (b : StatusBits) (w : Word) (f : StatusFlag) : Bool := w.getLsbD (statusBit b f)

/-- `st_decode(w)` (R172): bit `f` of the result is `w[STATUS_BIT(f)]`; bit 6 is written first. -/
def stDecode (b : StatusBits) (w : Word) : BitVec 7 :=
  BitVec.ofBool (statusFlag b w .writeDataCrcFailed) ++ BitVec.ofBool (statusFlag b w .commandFailed)
    ++ BitVec.ofBool (statusFlag b w .resetDetected) ++ BitVec.ofBool (statusFlag b w .temperatureAlert)
    ++ BitVec.ofBool (statusFlag b w .humidityAlert) ++ BitVec.ofBool (statusFlag b w .heaterEnabled)
    ++ BitVec.ofBool (statusFlag b w .alertPending)

end Sys2Proof.Machine
end

