-- ==== Sys2Proof/Machine/Status.lean ====
section
/-! DEFINITION. The register/status model's operations (spec/43_status.md). -/

namespace Sys2Proof.Machine

/-- A status word delivered to the host: `R_WORD <- w; R_FLAGS <- st_decode(w)` (R173, R174). -/
def putStatus (w : Word) (s : State) : State :=
  { s with rWord := w, rFlags := stDecode s.params.statusBit w }

/-- The two transactions of a status read, the cache and the result registers, then `k` (the
cache-miss path of R174 up to its `done`). -/
def statusMiss (k : State → State) (s : State) : State :=
  let c := cmdFixed s.params.cmd .statusRead
  writeThen (cmdBytes c) s fun s1 =>
    readThen 3 (recordAbf c s1) fun bytes s2 =>
      match blockWord s2.params bytes 0 with
      | none => raise .checksumMismatch s2
      | some w => k (putStatus w { s2 with stCache := some w })

/-- A status read, hit or miss, then `k` (R174 up to its `done`). -/
def statusThen (k : State → State) (s : State) : State :=
  match s.stCache with
  | some w => k (putStatus w s)
  | none => statusMiss k s

/-- STATUS_READ and STATUS_FRESH: an invalidator misses by its first step (R174 to R176). -/
def statusReadOp (o : Op) (s : State) : State := statusThen done (start o s)

/-- The test of one flag, the end of a predicate (R188). -/
def testFlag (f : StatusFlag) (s : State) : State :=
  done { s with rBool := s.rFlags.getLsbD (flagIndex f) }

/-- A predicate: STATUS_FRESH up to its `done`, then the test of one flag (R188). -/
def predicateOp (o : Op) (f : StatusFlag) (s : State) : State := statusThen (testFlag f) (start o s)

/-- An operation that sends one fixed command and ends (R177 to R179). -/
def sendStatusCommand (o : Op) (f : FixedCmd) (s : State) : State :=
  let c := cmdFixed s.params.cmd f
  writeThen (cmdBytes c) (start o s) fun s1 => done (recordAbf c s1)

/-- STDEC (R173). -/
def execStdec (w : Word) (s : State) : Host.Outcome State Fault Refusal :=
  .next (done (putStatus w s))

/-- STATUS_READ (R174). -/
def execStatusRead (s : State) : Host.Outcome State Fault Refusal := .next (statusReadOp .statusRead s)

/-- STATUS_FRESH (R175). -/
def execStatusFresh (s : State) : Host.Outcome State Fault Refusal := .next (statusReadOp .statusFresh s)

/-- HEATER_ON (R177). -/
def execHeaterOn (s : State) : Host.Outcome State Fault Refusal :=
  .next (sendStatusCommand .heaterOn .heaterOn s)

/-- HEATER_OFF (R178). -/
def execHeaterOff (s : State) : Host.Outcome State Fault Refusal :=
  .next (sendStatusCommand .heaterOff .heaterOff s)

/-- CLEAR_STATUS (R179). -/
def execClearStatus (s : State) : Host.Outcome State Fault Refusal :=
  .next (sendStatusCommand .clearStatus .statusClear s)

/-- IS_ALERT_PENDING (R180). -/
def execIsAlertPending (s : State) : Host.Outcome State Fault Refusal :=
  .next (predicateOp .isAlertPending .alertPending s)

/-- IS_HEATER_ON (R181). -/
def execIsHeaterOn (s : State) : Host.Outcome State Fault Refusal :=
  .next (predicateOp .isHeaterOn .heaterEnabled s)

/-- IS_HUMIDITY_ALERT (R182). -/
def execIsHumidityAlert (s : State) : Host.Outcome State Fault Refusal :=
  .next (predicateOp .isHumidityAlert .humidityAlert s)

/-- IS_TEMPERATURE_ALERT (R183). -/
def execIsTemperatureAlert (s : State) : Host.Outcome State Fault Refusal :=
  .next (predicateOp .isTemperatureAlert .temperatureAlert s)

/-- IS_RESET_DETECTED (R184). -/
def execIsResetDetected (s : State) : Host.Outcome State Fault Refusal :=
  .next (predicateOp .isResetDetected .resetDetected s)

/-- IS_COMMAND_FAILED (R185). -/
def execIsCommandFailed (s : State) : Host.Outcome State Fault Refusal :=
  .next (predicateOp .isCommandFailed .commandFailed s)

/-- IS_WRITE_CRC_FAILED (R186). -/
def execIsWriteCrcFailed (s : State) : Host.Outcome State Fault Refusal :=
  .next (predicateOp .isWriteCrcFailed .writeDataCrcFailed s)

end Sys2Proof.Machine
end

