-- ==== Sys2Proof/Machine/Commands.lean ====
section
/-! DEFINITION. The command words (format CMD16, spec/30_encoding.md R80 to R112). The block emits a
command word inside the operation its rule names; run by itself, a row of the table is one run of that
operation, at the selectors that select the row (log 7, DESIGN CHOICE). Where several operations
emit the word, or the operation has a `conv` field, log 8 says which run it is. -/

namespace Sys2Proof.Machine

/-- CMD_SS_LOW (R80), emitted by SINGLE_SHOT. -/
def execCmdSsLow (s : State) : Host.Outcome State Fault Refusal :=
  .next (singleShotOp .low false s)

/-- CMD_SS_MEDIUM (R81), emitted by SINGLE_SHOT. -/
def execCmdSsMedium (s : State) : Host.Outcome State Fault Refusal :=
  .next (singleShotOp .medium false s)

/-- CMD_SS_HIGH (R82), emitted by SINGLE_SHOT. -/
def execCmdSsHigh (s : State) : Host.Outcome State Fault Refusal :=
  .next (singleShotOp .high false s)

/-- CMD_PER_05_LOW (R83), emitted by START_PERIODIC. -/
def execCmdPer05Low (s : State) : Host.Outcome State Fault Refusal :=
  .next (startPeriodicOp .half .low s)

/-- CMD_PER_05_MEDIUM (R84), emitted by START_PERIODIC. -/
def execCmdPer05Medium (s : State) : Host.Outcome State Fault Refusal :=
  .next (startPeriodicOp .half .medium s)

/-- CMD_PER_05_HIGH (R85), emitted by START_PERIODIC. -/
def execCmdPer05High (s : State) : Host.Outcome State Fault Refusal :=
  .next (startPeriodicOp .half .high s)

/-- CMD_PER_1_LOW (R86), emitted by START_PERIODIC. -/
def execCmdPer1Low (s : State) : Host.Outcome State Fault Refusal :=
  .next (startPeriodicOp .one .low s)

/-- CMD_PER_1_MEDIUM (R87), emitted by START_PERIODIC. -/
def execCmdPer1Medium (s : State) : Host.Outcome State Fault Refusal :=
  .next (startPeriodicOp .one .medium s)

/-- CMD_PER_1_HIGH (R88), emitted by START_PERIODIC. -/
def execCmdPer1High (s : State) : Host.Outcome State Fault Refusal :=
  .next (startPeriodicOp .one .high s)

/-- CMD_PER_2_LOW (R89), emitted by START_PERIODIC. -/
def execCmdPer2Low (s : State) : Host.Outcome State Fault Refusal :=
  .next (startPeriodicOp .two .low s)

/-- CMD_PER_2_MEDIUM (R90), emitted by START_PERIODIC. -/
def execCmdPer2Medium (s : State) : Host.Outcome State Fault Refusal :=
  .next (startPeriodicOp .two .medium s)

/-- CMD_PER_2_HIGH (R91), emitted by START_PERIODIC. -/
def execCmdPer2High (s : State) : Host.Outcome State Fault Refusal :=
  .next (startPeriodicOp .two .high s)

/-- CMD_PER_4_LOW (R92), emitted by START_PERIODIC. -/
def execCmdPer4Low (s : State) : Host.Outcome State Fault Refusal :=
  .next (startPeriodicOp .four .low s)

/-- CMD_PER_4_MEDIUM (R93), emitted by START_PERIODIC. -/
def execCmdPer4Medium (s : State) : Host.Outcome State Fault Refusal :=
  .next (startPeriodicOp .four .medium s)

/-- CMD_PER_4_HIGH (R94), emitted by START_PERIODIC. -/
def execCmdPer4High (s : State) : Host.Outcome State Fault Refusal :=
  .next (startPeriodicOp .four .high s)

/-- CMD_PER_10_LOW (R95), emitted by START_PERIODIC. -/
def execCmdPer10Low (s : State) : Host.Outcome State Fault Refusal :=
  .next (startPeriodicOp .ten .low s)

/-- CMD_PER_10_MEDIUM (R96), emitted by START_PERIODIC. -/
def execCmdPer10Medium (s : State) : Host.Outcome State Fault Refusal :=
  .next (startPeriodicOp .ten .medium s)

/-- CMD_PER_10_HIGH (R97), emitted by START_PERIODIC. -/
def execCmdPer10High (s : State) : Host.Outcome State Fault Refusal :=
  .next (startPeriodicOp .ten .high s)

/-- CMD_FETCH (R98), emitted by FETCH. -/
def execCmdFetch (s : State) : Host.Outcome State Fault Refusal :=
  .next (fetchOp false s)

/-- CMD_BREAK (R99), emitted by BREAK. -/
def execCmdBreak (s : State) : Host.Outcome State Fault Refusal :=
  .next (breakOp s)

/-- CMD_RESET (R100), emitted by RESET. -/
def execCmdReset (s : State) : Host.Outcome State Fault Refusal :=
  .next (resetOp s)

/-- CMD_HEATER_ON (R101), emitted by HEATER_ON. -/
def execCmdHeaterOn (s : State) : Host.Outcome State Fault Refusal :=
  .next (sendStatusCommand .heaterOn .heaterOn s)

/-- CMD_HEATER_OFF (R102), emitted by HEATER_OFF. -/
def execCmdHeaterOff (s : State) : Host.Outcome State Fault Refusal :=
  .next (sendStatusCommand .heaterOff .heaterOff s)

/-- CMD_STATUS_READ (R103), emitted by STATUS_FRESH (and STATUS_READ on a miss, and the predicates). -/
def execCmdStatusRead (s : State) : Host.Outcome State Fault Refusal :=
  .next (statusReadOp .statusFresh s)

/-- CMD_STATUS_CLEAR (R104), emitted by CLEAR_STATUS. -/
def execCmdStatusClear (s : State) : Host.Outcome State Fault Refusal :=
  .next (sendStatusCommand .clearStatus .statusClear s)

/-- CMD_ALERT_RD_HIGH_SET (R105), emitted by ALERT_READ. -/
def execCmdAlertRdHighSet (s : State) : Host.Outcome State Fault Refusal :=
  .next (alertReadOp .highSet s)

/-- CMD_ALERT_RD_HIGH_CLEAR (R106), emitted by ALERT_READ. -/
def execCmdAlertRdHighClear (s : State) : Host.Outcome State Fault Refusal :=
  .next (alertReadOp .highClear s)

/-- CMD_ALERT_RD_LOW_CLEAR (R107), emitted by ALERT_READ. -/
def execCmdAlertRdLowClear (s : State) : Host.Outcome State Fault Refusal :=
  .next (alertReadOp .lowClear s)

/-- CMD_ALERT_RD_LOW_SET (R108), emitted by ALERT_READ. -/
def execCmdAlertRdLowSet (s : State) : Host.Outcome State Fault Refusal :=
  .next (alertReadOp .lowSet s)

/-- CMD_ALERT_WR_HIGH_SET (R109), emitted by ALERT_WRITE. -/
def execCmdAlertWrHighSet (s : State) : Host.Outcome State Fault Refusal :=
  .next (alertWriteOp .highSet s)

/-- CMD_ALERT_WR_HIGH_CLEAR (R110), emitted by ALERT_WRITE. -/
def execCmdAlertWrHighClear (s : State) : Host.Outcome State Fault Refusal :=
  .next (alertWriteOp .highClear s)

/-- CMD_ALERT_WR_LOW_CLEAR (R111), emitted by ALERT_WRITE. -/
def execCmdAlertWrLowClear (s : State) : Host.Outcome State Fault Refusal :=
  .next (alertWriteOp .lowClear s)

/-- CMD_ALERT_WR_LOW_SET (R112), emitted by ALERT_WRITE. -/
def execCmdAlertWrLowSet (s : State) : Host.Outcome State Fault Refusal :=
  .next (alertWriteOp .lowSet s)

end Sys2Proof.Machine
end

