-- ==== Sys2Proof/Machine/Dispatch.lean ====
section
/-! DEFINITION. Each instruction's meaning, one arm per row of spec/opcode_table.json. -/

namespace Sys2Proof.Machine

def exec (i : Instr) (s : State) : Host.Outcome State Fault Refusal :=
  match i with
  | .crc8 seed b0 b1 => Sys2Proof.Machine.execCrc8 seed b0 b1 s
  | .code2c code => Sys2Proof.Machine.execCode2c code s
  | .code2rh code => Sys2Proof.Machine.execCode2rh code s
  | .c2code => Sys2Proof.Machine.execC2code s
  | .rh2code => Sys2Proof.Machine.execRh2code s
  | .stdec w => Sys2Proof.Machine.execStdec w s
  | .cmdenc cls res cad thr => Sys2Proof.Machine.execCmdenc cls res cad thr s
  | .alpack => Sys2Proof.Machine.execAlpack s
  | .alunpack w => Sys2Proof.Machine.execAlunpack w s
  | .singleShot res conv => Sys2Proof.Machine.execSingleShot res conv s
  | .startPeriodic cad res => Sys2Proof.Machine.execStartPeriodic cad res s
  | .fetch conv => Sys2Proof.Machine.execFetch conv s
  | .brk => Sys2Proof.Machine.execBreak s
  | .reset => Sys2Proof.Machine.execReset s
  | .heaterOn => Sys2Proof.Machine.execHeaterOn s
  | .heaterOff => Sys2Proof.Machine.execHeaterOff s
  | .statusRead => Sys2Proof.Machine.execStatusRead s
  | .statusFresh => Sys2Proof.Machine.execStatusFresh s
  | .clearStatus => Sys2Proof.Machine.execClearStatus s
  | .alertRead thr => Sys2Proof.Machine.execAlertRead thr s
  | .alertWrite thr => Sys2Proof.Machine.execAlertWrite thr s
  | .isAlertPending => Sys2Proof.Machine.execIsAlertPending s
  | .isHeaterOn => Sys2Proof.Machine.execIsHeaterOn s
  | .isHumidityAlert => Sys2Proof.Machine.execIsHumidityAlert s
  | .isTemperatureAlert => Sys2Proof.Machine.execIsTemperatureAlert s
  | .isResetDetected => Sys2Proof.Machine.execIsResetDetected s
  | .isCommandFailed => Sys2Proof.Machine.execIsCommandFailed s
  | .isWriteCrcFailed => Sys2Proof.Machine.execIsWriteCrcFailed s
  | .cmdSsLow => Sys2Proof.Machine.execCmdSsLow s
  | .cmdSsMedium => Sys2Proof.Machine.execCmdSsMedium s
  | .cmdSsHigh => Sys2Proof.Machine.execCmdSsHigh s
  | .cmdPer05Low => Sys2Proof.Machine.execCmdPer05Low s
  | .cmdPer05Medium => Sys2Proof.Machine.execCmdPer05Medium s
  | .cmdPer05High => Sys2Proof.Machine.execCmdPer05High s
  | .cmdPer1Low => Sys2Proof.Machine.execCmdPer1Low s
  | .cmdPer1Medium => Sys2Proof.Machine.execCmdPer1Medium s
  | .cmdPer1High => Sys2Proof.Machine.execCmdPer1High s
  | .cmdPer2Low => Sys2Proof.Machine.execCmdPer2Low s
  | .cmdPer2Medium => Sys2Proof.Machine.execCmdPer2Medium s
  | .cmdPer2High => Sys2Proof.Machine.execCmdPer2High s
  | .cmdPer4Low => Sys2Proof.Machine.execCmdPer4Low s
  | .cmdPer4Medium => Sys2Proof.Machine.execCmdPer4Medium s
  | .cmdPer4High => Sys2Proof.Machine.execCmdPer4High s
  | .cmdPer10Low => Sys2Proof.Machine.execCmdPer10Low s
  | .cmdPer10Medium => Sys2Proof.Machine.execCmdPer10Medium s
  | .cmdPer10High => Sys2Proof.Machine.execCmdPer10High s
  | .cmdFetch => Sys2Proof.Machine.execCmdFetch s
  | .cmdBreak => Sys2Proof.Machine.execCmdBreak s
  | .cmdReset => Sys2Proof.Machine.execCmdReset s
  | .cmdHeaterOn => Sys2Proof.Machine.execCmdHeaterOn s
  | .cmdHeaterOff => Sys2Proof.Machine.execCmdHeaterOff s
  | .cmdStatusRead => Sys2Proof.Machine.execCmdStatusRead s
  | .cmdStatusClear => Sys2Proof.Machine.execCmdStatusClear s
  | .cmdAlertRdHighSet => Sys2Proof.Machine.execCmdAlertRdHighSet s
  | .cmdAlertRdHighClear => Sys2Proof.Machine.execCmdAlertRdHighClear s
  | .cmdAlertRdLowClear => Sys2Proof.Machine.execCmdAlertRdLowClear s
  | .cmdAlertRdLowSet => Sys2Proof.Machine.execCmdAlertRdLowSet s
  | .cmdAlertWrHighSet => Sys2Proof.Machine.execCmdAlertWrHighSet s
  | .cmdAlertWrHighClear => Sys2Proof.Machine.execCmdAlertWrHighClear s
  | .cmdAlertWrLowClear => Sys2Proof.Machine.execCmdAlertWrLowClear s
  | .cmdAlertWrLowSet => Sys2Proof.Machine.execCmdAlertWrLowSet s

end Sys2Proof.Machine
end

