-- ==== Sys2Proof/WellFormed.lean ====
section
/-! DEFINITION. Which instructions are legal requests as far as their encoding says (spec/30_encoding.md
R73): `res = 3`, `cad >= 5`, a CMDENC class above 10 and a CMDENC selector its class does not need are
illegal (spec/42_command_table.md R165). The domains of the argument registers are checked where the
operation reads them (R148, R149, R233). -/

namespace Sys2Proof

/-- `res` is one of the three resolutions (R71). -/
def resOk (res : BitVec 2) : Bool := res != 3#2

/-- `cad` is one of the five cadences (R71). -/
def cadOk (cad : BitVec 3) : Bool := cad.toNat < 5

/-- The CMDENC operands are legal: the class is 0 to 10 and every selector the class does not need
is zero (R165). -/
def cmdencOk (cls : BitVec 4) (res : BitVec 2) (cad : BitVec 3) (thr : BitVec 2) : Bool :=
  match cls.toNat with
  | 0 => resOk res && cad == 0#3 && thr == 0#2
  | 1 => resOk res && cadOk cad && thr == 0#2
  | 2 | 3 | 4 | 5 | 6 | 7 | 8 => res == 0#2 && cad == 0#3 && thr == 0#2
  | 9 | 10 => res == 0#2 && cad == 0#3
  | _ => false

/-- The legal instructions (R73). -/
def wellFormed : Instr → Bool
  | .crc8 _ _ _ | .code2c _ | .code2rh _ | .c2code | .rh2code | .stdec _ | .alpack | .alunpack _ => true
  | .cmdenc cls res cad thr => cmdencOk cls res cad thr
  | .singleShot res _ => resOk res
  | .startPeriodic cad res => cadOk cad && resOk res
  | .fetch _ | .brk | .reset | .heaterOn | .heaterOff | .statusRead | .statusFresh | .clearStatus => true
  | .alertRead _ | .alertWrite _ => true
  | .isAlertPending | .isHeaterOn | .isHumidityAlert | .isTemperatureAlert | .isResetDetected
  | .isCommandFailed | .isWriteCrcFailed => true
  | .cmdSsLow | .cmdSsMedium | .cmdSsHigh => true
  | .cmdPer05Low | .cmdPer05Medium | .cmdPer05High | .cmdPer1Low | .cmdPer1Medium | .cmdPer1High
  | .cmdPer2Low | .cmdPer2Medium | .cmdPer2High | .cmdPer4Low | .cmdPer4Medium | .cmdPer4High
  | .cmdPer10Low | .cmdPer10Medium | .cmdPer10High => true
  | .cmdFetch | .cmdBreak | .cmdReset | .cmdHeaterOn | .cmdHeaterOff | .cmdStatusRead
  | .cmdStatusClear => true
  | .cmdAlertRdHighSet | .cmdAlertRdHighClear | .cmdAlertRdLowClear | .cmdAlertRdLowSet => true
  | .cmdAlertWrHighSet | .cmdAlertWrHighClear | .cmdAlertWrLowClear | .cmdAlertWrLowSet => true

/-- `i` is a legal instruction. -/
abbrev WellFormed (i : Instr) : Prop := wellFormed i = true

end Sys2Proof
end

