-- ==== Sys2Proof/Decode.lean ====
section
/-! DEFINITION. The decoder of the block, total on any 32-bit request word (spec/30_encoding.md R70 to
R74), and the encoder. The block decodes no command word (R113): `decodeCommand` reads the 16-bit rows
of spec/opcode_table.json for the host's tools, by looking a word up in the table CMD (R77; log 7). -/

namespace Sys2Proof
open Sys2Proof.Config Sys2Proof.Machine

/-- A word of the opcode table: a request word that the host writes to REQ (R70), or a command word that
the block emits (R77), written `word(c0, c1)`. -/
inductive Encoded where
  | request (w : Word32)
  | command (c : Word)
deriving DecidableEq, Repr

/-- Why a word is no instruction (R73, R77). -/
inductive DecodeError where
  /-- `op` is not in the table of R72. -/
  | unknownOp
  /-- A field the operation does not use is not zero. -/
  | unusedField
  /-- `res = 3`. -/
  | badResolution
  /-- `cad >= 5`. -/
  | badCadence
  /-- A CMDENC class above 10. -/
  | badClass
  /-- A command word outside the 33 of the table. -/
  | unknownCommand
deriving DecidableEq, Repr

/-- `REQ[31:24]`, the operation (R70). -/
def reqOp (w : Word32) : Byte := w.extractLsb' 24 8

/-- `REQ[23:16]`, the selectors, or the seed of CRC8 (R70, R71). -/
def reqSel (w : Word32) : Byte := w.extractLsb' 16 8

/-- `REQ[15:0]`, the 16-bit operand (R70). -/
def reqData (w : Word32) : Word := w.extractLsb' 0 16

/-- `res`, `sel[1:0]` (R71). -/
def reqRes (w : Word32) : BitVec 2 := w.extractLsb' 16 2

/-- `cad`, `sel[4:2]` (R71). -/
def reqCad (w : Word32) : BitVec 3 := w.extractLsb' 18 3

/-- `thr`, `sel[6:5]` (R71). -/
def reqThr (w : Word32) : BitVec 2 := w.extractLsb' 21 2

/-- `conv`, `sel[7]` (R71). -/
def reqConv (w : Word32) : Bool := w.getLsbD 23

/-- `i`, provided that the fields the operation does not use are zero (R73). -/
def whenUnusedZero (zero : Bool) (i : Except DecodeError Instr) : Except DecodeError Instr :=
  if zero then i else .error .unusedField

/-- `i`, provided that `res` is a resolution (R73). -/
def whenRes (res : BitVec 2) (i : Except DecodeError Instr) : Except DecodeError Instr :=
  if resOk res then i else .error .badResolution

/-- `i`, provided that `cad` is a cadence (R73). -/
def whenCad (cad : BitVec 3) (i : Except DecodeError Instr) : Except DecodeError Instr :=
  if cadOk cad then i else .error .badCadence

/-- An operation that uses no field but `op`: `REQ[23:0]` must be zero (R72, R73). -/
def noOperand (w : Word32) (i : Instr) : Except DecodeError Instr :=
  whenUnusedZero (w.extractLsb' 0 24 == 0#24) (.ok i)

/-- The operands of CMDENC (R165): `class` in `data[3:0]`, and the selectors the class needs; `conv`,
`data[15:4]` and every selector the class does not need must be zero. -/
def decodeCmdenc (w : Word32) : Except DecodeError Instr :=
  let cls : BitVec 4 := w.extractLsb' 0 4
  let res := reqRes w
  let cad := reqCad w
  let thr := reqThr w
  let i : Except DecodeError Instr := .ok (.cmdenc cls res cad thr)
  whenUnusedZero (!reqConv w && w.extractLsb' 4 12 == 0#12) <|
    match cls.toNat with
    | 0 => whenUnusedZero (cad == 0#3 && thr == 0#2) (whenRes res i)
    | 1 => whenUnusedZero (thr == 0#2) (whenCad cad (whenRes res i))
    | 2 | 3 | 4 | 5 | 6 | 7 | 8 => whenUnusedZero (res == 0#2 && cad == 0#3 && thr == 0#2) i
    | 9 | 10 => whenUnusedZero (res == 0#2 && cad == 0#3) i
    | _ => .error .badClass

/-- The operations, in the order of R72. -/
def allOps : List Op :=
  [.crc8, .code2c, .code2rh, .c2code, .rh2code, .stdec, .cmdenc, .alpack, .alunpack, .singleShot,
   .startPeriodic, .fetch, .brk, .reset, .heaterOn, .heaterOff, .statusRead, .statusFresh,
   .clearStatus, .alertRead, .alertWrite, .isAlertPending, .isHeaterOn, .isHumidityAlert,
   .isTemperatureAlert, .isResetDetected, .isCommandFailed, .isWriteCrcFailed]

/-- The operation a number stands for (R72). Where HOSTOP gives two operations one number, the first in
the order of R72's table (log 10). -/
def opOfNumber? (h : OpNumbers) (b : Byte) : Option Op := allOps.find? fun o => opNumber h o == b

/-- The operation with its operands, of a request whose `op` names `o` (R72, R73). -/
def decodeOp (o : Op) (w : Word32) : Except DecodeError Instr :=
  match o with
  | .crc8 => .ok (.crc8 (reqSel w) (w.extractLsb' 8 8) (w.extractLsb' 0 8))
  | .code2c => whenUnusedZero (reqSel w == 0#8) (.ok (.code2c (reqData w)))
  | .code2rh => whenUnusedZero (reqSel w == 0#8) (.ok (.code2rh (reqData w)))
  | .c2code => noOperand w .c2code
  | .rh2code => noOperand w .rh2code
  | .stdec => whenUnusedZero (reqSel w == 0#8) (.ok (.stdec (reqData w)))
  | .cmdenc => decodeCmdenc w
  | .alpack => noOperand w .alpack
  | .alunpack => whenUnusedZero (reqSel w == 0#8) (.ok (.alunpack (reqData w)))
  | .singleShot =>
    whenUnusedZero (reqCad w == 0#3 && reqThr w == 0#2 && reqData w == 0#16) <|
      whenRes (reqRes w) (.ok (.singleShot (reqRes w) (reqConv w)))
  | .startPeriodic =>
    whenUnusedZero (!reqConv w && reqThr w == 0#2 && reqData w == 0#16) <|
      whenCad (reqCad w) <| whenRes (reqRes w) (.ok (.startPeriodic (reqCad w) (reqRes w)))
  | .fetch => whenUnusedZero (w.extractLsb' 0 23 == 0#23) (.ok (.fetch (reqConv w)))
  | .brk => noOperand w .brk
  | .reset => noOperand w .reset
  | .heaterOn => noOperand w .heaterOn
  | .heaterOff => noOperand w .heaterOff
  | .statusRead => noOperand w .statusRead
  | .statusFresh => noOperand w .statusFresh
  | .clearStatus => noOperand w .clearStatus
  | .alertRead =>
    whenUnusedZero (!reqConv w && w.extractLsb' 0 21 == 0#21) (.ok (.alertRead (reqThr w)))
  | .alertWrite =>
    whenUnusedZero (!reqConv w && w.extractLsb' 0 21 == 0#21) (.ok (.alertWrite (reqThr w)))
  | .isAlertPending => noOperand w .isAlertPending
  | .isHeaterOn => noOperand w .isHeaterOn
  | .isHumidityAlert => noOperand w .isHumidityAlert
  | .isTemperatureAlert => noOperand w .isTemperatureAlert
  | .isResetDetected => noOperand w .isResetDetected
  | .isCommandFailed => noOperand w .isCommandFailed
  | .isWriteCrcFailed => noOperand w .isWriteCrcFailed

/-- The request decoder (R72 to R74). -/
def decodeReq (h : OpNumbers) (w : Word32) : Except DecodeError Instr :=
  match opOfNumber? h (reqOp w) with
  | some o => decodeOp o w
  | none => .error .unknownOp

/-- The row of the opcode table of each command name (R80 to R112). -/
def commandInstr : Cmd → Instr
  | .single .low => .cmdSsLow
  | .single .medium => .cmdSsMedium
  | .single .high => .cmdSsHigh
  | .periodic .half .low => .cmdPer05Low
  | .periodic .half .medium => .cmdPer05Medium
  | .periodic .half .high => .cmdPer05High
  | .periodic .one .low => .cmdPer1Low
  | .periodic .one .medium => .cmdPer1Medium
  | .periodic .one .high => .cmdPer1High
  | .periodic .two .low => .cmdPer2Low
  | .periodic .two .medium => .cmdPer2Medium
  | .periodic .two .high => .cmdPer2High
  | .periodic .four .low => .cmdPer4Low
  | .periodic .four .medium => .cmdPer4Medium
  | .periodic .four .high => .cmdPer4High
  | .periodic .ten .low => .cmdPer10Low
  | .periodic .ten .medium => .cmdPer10Medium
  | .periodic .ten .high => .cmdPer10High
  | .fixed .fetch => .cmdFetch
  | .fixed .brk => .cmdBreak
  | .fixed .reset => .cmdReset
  | .fixed .heaterOn => .cmdHeaterOn
  | .fixed .heaterOff => .cmdHeaterOff
  | .fixed .statusRead => .cmdStatusRead
  | .fixed .statusClear => .cmdStatusClear
  | .alertRead .highSet => .cmdAlertRdHighSet
  | .alertRead .highClear => .cmdAlertRdHighClear
  | .alertRead .lowClear => .cmdAlertRdLowClear
  | .alertRead .lowSet => .cmdAlertRdLowSet
  | .alertWrite .highSet => .cmdAlertWrHighSet
  | .alertWrite .highClear => .cmdAlertWrHighClear
  | .alertWrite .lowClear => .cmdAlertWrLowClear
  | .alertWrite .lowSet => .cmdAlertWrLowSet

/-- The command name of a word of the table CMD (R77). DESIGN CHOICE (log 7): where CMD gives two names
one word, which R163 rules out for some pairs only, the first of `allCmds`. -/
def commandName? (t : CmdTable) (c : Word) : Option Cmd := allCmds.find? fun n => cmdWord t n == c

/-- The row a command word stands for. -/
def decodeCommand (t : CmdTable) (c : Word) : Except DecodeError Instr :=
  match commandName? t c with
  | some n => .ok (commandInstr n)
  | none => .error .unknownCommand

/-- The instruction of a word of the opcode table. -/
def decode (p : Params) : Encoded → Except DecodeError Instr
  | .request w => decodeReq p.hostop w
  | .command c => decodeCommand p.cmd c

/-- The selector byte of R71, from its fields. -/
def packSel (conv : Bool) (thr : BitVec 2) (cad : BitVec 3) (res : BitVec 2) : Byte :=
  BitVec.ofBool conv ++ thr ++ cad ++ res

/-- The request word of R70, from its fields. -/
def packReq (op sel : Byte) (data : Word) : Word32 := op ++ sel ++ data

/-- The request of an operation that uses no field but `op` (R72). -/
def packOp (op : Byte) : Encoded := .request (packReq op 0#8 0#16)

/-- The encoder: the word of a well-formed instruction (R70 to R72, R80 to R112). -/
def encode (p : Params) (i : Instr) : Encoded :=
  let n := opNumber p.hostop
  match i with
  | .crc8 seed b0 b1 => .request (packReq (n .crc8) seed (b0 ++ b1))
  | .code2c code => .request (packReq (n .code2c) 0#8 code)
  | .code2rh code => .request (packReq (n .code2rh) 0#8 code)
  | .c2code => packOp (n .c2code)
  | .rh2code => packOp (n .rh2code)
  | .stdec w => .request (packReq (n .stdec) 0#8 w)
  | .cmdenc cls res cad thr => .request (packReq (n .cmdenc) (packSel false thr cad res) (0#12 ++ cls))
  | .alpack => packOp (n .alpack)
  | .alunpack w => .request (packReq (n .alunpack) 0#8 w)
  | .singleShot res conv => .request (packReq (n .singleShot) (packSel conv 0#2 0#3 res) 0#16)
  | .startPeriodic cad res => .request (packReq (n .startPeriodic) (packSel false 0#2 cad res) 0#16)
  | .fetch conv => .request (packReq (n .fetch) (packSel conv 0#2 0#3 0#2) 0#16)
  | .brk => packOp (n .brk)
  | .reset => packOp (n .reset)
  | .heaterOn => packOp (n .heaterOn)
  | .heaterOff => packOp (n .heaterOff)
  | .statusRead => packOp (n .statusRead)
  | .statusFresh => packOp (n .statusFresh)
  | .clearStatus => packOp (n .clearStatus)
  | .alertRead thr => .request (packReq (n .alertRead) (packSel false thr 0#3 0#2) 0#16)
  | .alertWrite thr => .request (packReq (n .alertWrite) (packSel false thr 0#3 0#2) 0#16)
  | .isAlertPending => packOp (n .isAlertPending)
  | .isHeaterOn => packOp (n .isHeaterOn)
  | .isHumidityAlert => packOp (n .isHumidityAlert)
  | .isTemperatureAlert => packOp (n .isTemperatureAlert)
  | .isResetDetected => packOp (n .isResetDetected)
  | .isCommandFailed => packOp (n .isCommandFailed)
  | .isWriteCrcFailed => packOp (n .isWriteCrcFailed)
  | .cmdSsLow => .command (cmdSingle p.cmd .low)
  | .cmdSsMedium => .command (cmdSingle p.cmd .medium)
  | .cmdSsHigh => .command (cmdSingle p.cmd .high)
  | .cmdPer05Low => .command (cmdPeriodic p.cmd .half .low)
  | .cmdPer05Medium => .command (cmdPeriodic p.cmd .half .medium)
  | .cmdPer05High => .command (cmdPeriodic p.cmd .half .high)
  | .cmdPer1Low => .command (cmdPeriodic p.cmd .one .low)
  | .cmdPer1Medium => .command (cmdPeriodic p.cmd .one .medium)
  | .cmdPer1High => .command (cmdPeriodic p.cmd .one .high)
  | .cmdPer2Low => .command (cmdPeriodic p.cmd .two .low)
  | .cmdPer2Medium => .command (cmdPeriodic p.cmd .two .medium)
  | .cmdPer2High => .command (cmdPeriodic p.cmd .two .high)
  | .cmdPer4Low => .command (cmdPeriodic p.cmd .four .low)
  | .cmdPer4Medium => .command (cmdPeriodic p.cmd .four .medium)
  | .cmdPer4High => .command (cmdPeriodic p.cmd .four .high)
  | .cmdPer10Low => .command (cmdPeriodic p.cmd .ten .low)
  | .cmdPer10Medium => .command (cmdPeriodic p.cmd .ten .medium)
  | .cmdPer10High => .command (cmdPeriodic p.cmd .ten .high)
  | .cmdFetch => .command (cmdFixed p.cmd .fetch)
  | .cmdBreak => .command (cmdFixed p.cmd .brk)
  | .cmdReset => .command (cmdFixed p.cmd .reset)
  | .cmdHeaterOn => .command (cmdFixed p.cmd .heaterOn)
  | .cmdHeaterOff => .command (cmdFixed p.cmd .heaterOff)
  | .cmdStatusRead => .command (cmdFixed p.cmd .statusRead)
  | .cmdStatusClear => .command (cmdFixed p.cmd .statusClear)
  | .cmdAlertRdHighSet => .command (cmdAlertRead p.cmd .highSet)
  | .cmdAlertRdHighClear => .command (cmdAlertRead p.cmd .highClear)
  | .cmdAlertRdLowClear => .command (cmdAlertRead p.cmd .lowClear)
  | .cmdAlertRdLowSet => .command (cmdAlertRead p.cmd .lowSet)
  | .cmdAlertWrHighSet => .command (cmdAlertWrite p.cmd .highSet)
  | .cmdAlertWrHighClear => .command (cmdAlertWrite p.cmd .highClear)
  | .cmdAlertWrLowClear => .command (cmdAlertWrite p.cmd .lowClear)
  | .cmdAlertWrLowSet => .command (cmdAlertWrite p.cmd .lowSet)

/-- A word as spec/opcode_table.json numbers its bits: a row of at most 16 bits is a command word, a
longer one a request word (every row has one of the two widths). -/
def encodedOfTable (nbits w : Nat) : Encoded :=
  if nbits ≤ 16 then .command (BitVec.ofNat 16 w) else .request (BitVec.ofNat 32 w)

/-- The instruction the decoder reads from a table word, at the default parameters. -/
def decodeTableWord (nbits w : Nat) : Option Instr :=
  match decode defaultParams (encodedOfTable nbits w) with
  | .ok i => some i
  | .error _ => none

end Sys2Proof
end

