-- ==== Sys2Proof/Machine/Fetch.lean ====
section
/-! DEFINITION. What the block does next: nothing is fetched from a memory (spec/20_memory.md R63), the
host's writes are taken one by one (log 1), and a write of REQ is decoded once, at acceptance
(spec/30_encoding.md R74). -/

namespace Sys2Proof.Machine

/-- The acceptance of a request: REQ holds the word, BUSY goes from 0 to 1 (R28, R74). -/
def acceptRequest (w : Word32) (rest : List Input) (s : State) : State :=
  { s with req := w, busy := true, inputs := rest }

/-- The start of a run asked for by a command's name (log 7): no request register changes. -/
def acceptEmit (rest : List Input) (s : State) : State := { s with busy := true, inputs := rest }

/-- What the next step has to do. -/
inductive Fetched where
  /-- No input is waiting. -/
  | idle
  /-- An input arrived while BUSY = 1 (U1). -/
  | overlap
  /-- The host wrote A0 or A1: this is the state after it. -/
  | written (s : State)
  /-- An instruction to run, from this state. -/
  | run (i : Instr) (s : State)
  /-- An illegal request (R73), accepted in this state. -/
  | illegal (s : State)

/-- The next input of the block; a write of REQ is decoded, and nothing else is (R74, R113). -/
def fetchNext (s : State) : Fetched :=
  match s.inputs with
  | [] => .idle
  | x :: rest =>
    if s.busy then .overlap
    else
      match x with
      | .writeA0 v => .written { s with a0 := v, inputs := rest }
      | .writeA1 v => .written { s with a1 := v, inputs := rest }
      | .writeReq w =>
        match decodeReq s.params.hostop w with
        | .ok i => .run i (acceptRequest w rest s)
        | .error _ => .illegal (acceptRequest w rest s)
      | .emit c => .run (commandInstr c) (acceptEmit rest s)

/-- `s` with the instruction of a table word as its next input (log 1). A command word is looked up here,
before the block: what is placed is the command's name (log 7), and a word outside the table places
nothing. -/
def placeNext (e : Encoded) (s : State) : State :=
  match e with
  | .request w => { s with inputs := .writeReq w :: s.inputs }
  | .command c =>
    match commandName? s.params.cmd c with
    | some n => { s with inputs := .emit n :: s.inputs }
    | none => s

end Sys2Proof.Machine
end

