-- ==== Sys2Proof/Machine/Step.lean ====
section
/-! DEFINITION. One step of the block: one input, taken from the host. A request runs as a whole, from
its acceptance to its `done` or `raise` (spec/00_scope.md R12, log 11), or to the transaction that never
returns (R307, log 14). -/

namespace Sys2Proof.Machine

/-- One step. With no input nothing happens: the block waits (R291), or it hangs (R307; log 17). An
illegal request ends with `InvalidRequest`
and no other effect (R73, R258). -/
def step (s : State) : Host.Outcome State Fault Refusal :=
  match fetchNext s with
  | .idle => .next s
  | .overlap => .fault .overlappingRequest
  | .written s1 => .next s1
  | .run i s1 => exec i s1
  | .illegal s1 => .next (raise .invalidRequest s1)

/-- `s` with the instruction whose bits are `w`, as spec/opcode_table.json numbers them, as the next
thing the block runs: the host's next write of REQ, or the next run of a command (log 1, log 7). -/
def State.withFetchWord (s : State) (nbits w : Nat) : State := placeNext (encodedOfTable nbits w) s

end Sys2Proof.Machine
end

