-- ==== Sys2Proof/Safety.lean ====
section
/-! DEFINITION. What counts as a sound state of the block, and the words that claims use: the operation
an instruction performs, the frame it writes first, the schedule of FETCH's waits. -/

namespace Sys2Proof.Safety
open Sys2Proof.Machine Sys2Proof.Config

/-! ## The configuration record -/

/-- The seven accessor predicates (R188). -/
def predicateOps : List Op :=
  [.isAlertPending, .isHeaterOn, .isHumidityAlert, .isTemperatureAlert, .isResetDetected,
   .isCommandFailed, .isWriteCrcFailed]

/-- The nine pure-unit operations (R72). -/
def pureOps : List Op :=
  [.crc8, .code2c, .code2rh, .c2code, .rh2code, .stdec, .cmdenc, .alpack, .alunpack]

/-- The seven status flags, in the order of R36. -/
def statusFlags : List StatusFlag :=
  [.alertPending, .heaterEnabled, .humidityAlert, .temperatureAlert, .resetDetected, .commandFailed,
   .writeDataCrcFailed]

/-- The error outcomes (R250). -/
def errorCodes : List ErrCode :=
  [.checksumMismatch, .busNotAcknowledging, .busIOError, .noActiveAcquisition, .cancelled,
   .deadlineExceeded, .invalidRequest]

/-- What the protocol engine needs of the table CMD (R163): (a) the periodic-start opcodes are distinct,
(b) BREAK's is none of them, (c) under AllButFetch no other recorded opcode is one of them. -/
abbrev TableOk (p : Params) : Prop :=
  (periodicWords p.cmd).Nodup ∧
  isPeriodic p.cmd (cmdFixed p.cmd .brk) = false ∧
  (p.lcPolicy = .allButFetch →
    ∀ c ∈ otherCmds, c ≠ .fixed .fetch → isPeriodic p.cmd (cmdWord p.cmd c) = false)

/-- What the source fixes of the status positions (R171): they are distinct, and RESET_DETECTED is bit
13 or bit 4. -/
abbrev StatusBitsOk (p : Params) : Prop :=
  (statusFlags.map (statusBit p.statusBit)).Nodup ∧
  (statusBit p.statusBit .resetDetected = 13 ∨ statusBit p.statusBit .resetDetected = 4)

/-- The seven error codes are distinct, and none is the code of success (R250). -/
abbrev ErrCodesOk (p : Params) : Prop :=
  (0#4 :: errorCodes.map (errCode p.errCode)).Nodup

/-- The constraints the spec puts on the parameters: R163, R171, R250, and R176, by which no pure-unit
operation invalidates the cache. -/
abbrev ParamsOk (p : Params) : Prop :=
  TableOk p ∧ StatusBitsOk p ∧ ErrCodesOk p ∧ ∀ o ∈ pureOps, o ∉ p.stInvalidators

/-- What reading an encoding back needs: the numbers of the operations are distinct (R72), and so are
the 33 command words, which R163 says of the default table and asks of no other. -/
abbrev EncodingsDistinct (p : Params) : Prop :=
  (allOps.map (opNumber p.hostop)).Nodup ∧ (allCmds.map (cmdWord p.cmd)).Nodup

/-! ## Sound states -/

/-- FSM agrees with the rest of the state: `quiescent()` between operations (R31); and in an operation
that hangs, FetchPending only where the validation passed (R30, R204). -/
def FsmOk (s : State) : Prop :=
  (s.busy = false → s.fsm = quiescent s) ∧
  (s.busy = true → s.fsm = .fetchPending → sessionActive s = true)

/-- The invariant of the handle registers (R27): a recorded periodic-start opcode is the one CADENCE
and RESOLUTION, which then hold valid encodings, imply. -/
def HandleOk (s : State) : Prop :=
  ∀ c, s.lastCmd = some c → isPeriodic s.params.cmd c = true →
    ∃ cad res, s.cadence = cadenceBits cad ∧ s.resolution = resolutionBits res ∧
      c = cmdPeriodic s.params.cmd cad res

/-- The engine's counters are in their ranges (R29). -/
def CountersOk (s : State) : Prop := s.retry.toNat ≤ 5 ∧ s.waitUs.toNat ≤ 2000000

/-- R_ERR holds 0 or the code of an error (R250), and with exact conversions each physical result is held
twice, as hundredths in its range and as the binary32 of those hundredths (R34). -/
def ResultsOk (s : State) : Prop :=
  (s.rErr = 0#4 ∨ ∃ e, s.rErr = errCode s.params.errCode e) ∧
  (s.params.convArith = .exact →
    (-4500 ≤ s.rTcenti.toInt ∧ s.rTcenti.toInt ≤ 13000 ∧ s.rTf32 = b32Centi s.rTcenti.toInt) ∧
    (s.rRhcenti.toNat ≤ 10000 ∧ s.rRhf32 = b32Centi s.rRhcenti.toNat))

/-- A sound state, between two operations or in one that hangs. -/
def Sound (s : State) : Prop :=
  ParamsOk s.params ∧ FsmOk s ∧ HandleOk s ∧ CountersOk s ∧ ResultsOk s

/-- A binary32 result pattern is finite and no negative zero (R37). -/
def CleanFloat (f : Word32) : Prop := f32Finite f = true ∧ f ≠ 0x80000000#32

/-! ## The operation of an instruction -/

/-- The operation an instruction performs; a command word performs the operation that emits it
(log 7, log 8). -/
def opOf : Instr → Op
  | .crc8 _ _ _ => .crc8
  | .code2c _ => .code2c
  | .code2rh _ => .code2rh
  | .c2code => .c2code
  | .rh2code => .rh2code
  | .stdec _ => .stdec
  | .cmdenc _ _ _ _ => .cmdenc
  | .alpack => .alpack
  | .alunpack _ => .alunpack
  | .singleShot _ _ | .cmdSsLow | .cmdSsMedium | .cmdSsHigh => .singleShot
  | .startPeriodic _ _ | .cmdPer05Low | .cmdPer05Medium | .cmdPer05High | .cmdPer1Low
  | .cmdPer1Medium | .cmdPer1High | .cmdPer2Low | .cmdPer2Medium | .cmdPer2High | .cmdPer4Low
  | .cmdPer4Medium | .cmdPer4High | .cmdPer10Low | .cmdPer10Medium | .cmdPer10High => .startPeriodic
  | .fetch _ | .cmdFetch => .fetch
  | .brk | .cmdBreak => .brk
  | .reset | .cmdReset => .reset
  | .heaterOn | .cmdHeaterOn => .heaterOn
  | .heaterOff | .cmdHeaterOff => .heaterOff
  | .statusRead => .statusRead
  | .statusFresh | .cmdStatusRead => .statusFresh
  | .clearStatus | .cmdStatusClear => .clearStatus
  | .alertRead _ | .cmdAlertRdHighSet | .cmdAlertRdHighClear | .cmdAlertRdLowClear
  | .cmdAlertRdLowSet => .alertRead
  | .alertWrite _ | .cmdAlertWrHighSet | .cmdAlertWrHighClear | .cmdAlertWrLowClear
  | .cmdAlertWrLowSet => .alertWrite
  | .isAlertPending => .isAlertPending
  | .isHeaterOn => .isHeaterOn
  | .isHumidityAlert => .isHumidityAlert
  | .isTemperatureAlert => .isTemperatureAlert
  | .isResetDetected => .isResetDetected
  | .isCommandFailed => .isCommandFailed
  | .isWriteCrcFailed => .isWriteCrcFailed

/-! ## The forms of each protocol operation: the host operation and its command words -/

/-- The command word of a single shot (R80 to R82). -/
def singleShotCommand : Resolution → Instr
  | .low => .cmdSsLow
  | .medium => .cmdSsMedium
  | .high => .cmdSsHigh

/-- SINGLE_SHOT, and its command word where no conversion is asked for (log 8). -/
def singleShotForms (r : Resolution) (conv : Bool) : List Instr :=
  .singleShot (resolutionBits r) conv :: if conv then [] else [singleShotCommand r]

/-- The command word of a periodic start (R83 to R97). -/
def periodicCommand : Cadence → Resolution → Instr
  | .half, .low => .cmdPer05Low
  | .half, .medium => .cmdPer05Medium
  | .half, .high => .cmdPer05High
  | .one, .low => .cmdPer1Low
  | .one, .medium => .cmdPer1Medium
  | .one, .high => .cmdPer1High
  | .two, .low => .cmdPer2Low
  | .two, .medium => .cmdPer2Medium
  | .two, .high => .cmdPer2High
  | .four, .low => .cmdPer4Low
  | .four, .medium => .cmdPer4Medium
  | .four, .high => .cmdPer4High
  | .ten, .low => .cmdPer10Low
  | .ten, .medium => .cmdPer10Medium
  | .ten, .high => .cmdPer10High

/-- START_PERIODIC and its command word. -/
def startPeriodicForms (c : Cadence) (r : Resolution) : List Instr :=
  [.startPeriodic (cadenceBits c) (resolutionBits r), periodicCommand c r]

/-- FETCH, and its command word where no conversion is asked for (log 8). -/
def fetchForms (conv : Bool) : List Instr := .fetch conv :: if conv then [] else [.cmdFetch]

/-- The operations that invalidate the cache and send one fixed command, with that command. -/
def statusCommandForms : List (Instr × FixedCmd) :=
  [(.heaterOn, .heaterOn), (.cmdHeaterOn, .heaterOn), (.heaterOff, .heaterOff),
   (.cmdHeaterOff, .heaterOff), (.clearStatus, .statusClear), (.cmdStatusClear, .statusClear)]

/-- The predicates with their flags (R180 to R186). -/
def predicateForms : List (Instr × StatusFlag) :=
  [(.isAlertPending, .alertPending), (.isHeaterOn, .heaterEnabled),
   (.isHumidityAlert, .humidityAlert), (.isTemperatureAlert, .temperatureAlert),
   (.isResetDetected, .resetDetected), (.isCommandFailed, .commandFailed),
   (.isWriteCrcFailed, .writeDataCrcFailed)]

/-- ALERT_READ and its command word, by threshold. -/
def alertReadForms : Threshold → List Instr
  | .highSet => [.alertRead 0#2, .cmdAlertRdHighSet]
  | .highClear => [.alertRead 1#2, .cmdAlertRdHighClear]
  | .lowClear => [.alertRead 2#2, .cmdAlertRdLowClear]
  | .lowSet => [.alertRead 3#2, .cmdAlertRdLowSet]

/-- ALERT_WRITE and its command word, by threshold. -/
def alertWriteForms : Threshold → List Instr
  | .highSet => [.alertWrite 0#2, .cmdAlertWrHighSet]
  | .highClear => [.alertWrite 1#2, .cmdAlertWrHighClear]
  | .lowClear => [.alertWrite 2#2, .cmdAlertWrLowClear]
  | .lowSet => [.alertWrite 3#2, .cmdAlertWrLowSet]

/-- STATUS_READ and STATUS_FRESH, and the status-read command word (log 8). -/
def statusReadForms : List Instr := [.statusRead, .statusFresh, .cmdStatusRead]

/-! ## Shared values -/

/-- ST_VALID and ST_WORD after the first step of the operation of `i` (R176). -/
def started (i : Instr) (s : State) : Option Word :=
  if opOf i ∈ s.params.stInvalidators then none else s.stCache

/-- A data block as it crosses the bus: two bytes and their checksum (R54). -/
def goodBlockBytes (p : Params) (d0 d1 : Byte) : List Byte := [d0, d1, blockCrc p d0 d1]

/-- A frame R6 with good checksums (R54). -/
def goodFrameBytes (p : Params) (t0 t1 h0 h1 : Byte) : List Byte :=
  goodBlockBytes p t0 t1 ++ goodBlockBytes p h0 h1

/-- What LC holds after an operation other than START_PERIODIC, BREAK and FETCH has sent the command
`c` (R26). -/
def recorded (s : State) (c : Word) : Option Word :=
  match s.params.lcPolicy with
  | .startBreakOnly => s.lastCmd
  | .allButFetch => some c

/-- FSM at the end of an operation that leaves LC at `lc` and the session descriptor alone (R31). -/
def fsmAfter (s : State) (lc : Option Word) : Fsm := quiescent { s with lastCmd := lc }

/-- FSM inside the operation of `i` (R30). -/
def fsmInside (i : Instr) (s : State) : Fsm :=
  if opOf i = .singleShot then .singleShotPending
  else if opOf i = .fetch then .fetchPending
  else s.fsm

/-- `i`, requested in the state `s`, comes to its BusWrite, and hands over `bytes` (R54, R64): the passed
validation of FETCH, the cache miss of a status read and the domains of ALERT_WRITE are conditions
on `s`. -/
def SendsFrame (i : Instr) (bytes : List Byte) (s : State) : Prop :=
  let t := s.params.cmd
  (∃ r conv, i ∈ singleShotForms r conv ∧ bytes = cmdBytes (cmdSingle t r)) ∨
  (∃ c r, i ∈ startPeriodicForms c r ∧ bytes = cmdBytes (cmdPeriodic t c r)) ∨
  (∃ conv, i ∈ fetchForms conv ∧ sessionActive s = true ∧ bytes = cmdBytes (cmdFixed t .fetch)) ∨
  ((i = .brk ∨ i = .cmdBreak) ∧ bytes = cmdBytes (cmdFixed t .brk)) ∨
  ((i = .reset ∨ i = .cmdReset) ∧ bytes = cmdBytes (cmdFixed t .reset)) ∨
  (∃ f, (i, f) ∈ statusCommandForms ∧ bytes = cmdBytes (cmdFixed t f)) ∨
  ((i ∈ statusReadForms ∨ opOf i ∈ predicateOps) ∧ started i s = none ∧
    bytes = cmdBytes (cmdFixed t .statusRead)) ∨
  (∃ thr, i ∈ alertReadForms thr ∧ bytes = cmdBytes (cmdAlertRead t thr)) ∨
  (∃ thr x y, i ∈ alertWriteForms thr ∧ celsius? s.a0 = some x ∧ percent? s.a1 = some y ∧
    bytes = alertFrame s.params (cmdAlertWrite t thr)
      (alPack (tCodeWord s.params.invRounding x) (rhCodeWord s.params.invRounding y)))

/-- `i`, requested in the state `s`, sends the command `c`, and after the events `waits` makes its one
BusRead, of `n` bytes (R54, R64). -/
def ReadsOnce (i : Instr) (c : Word) (n : ℕ) (waits : List Event) (s : State) : Prop :=
  let t := s.params.cmd
  (∃ r conv, i ∈ singleShotForms r conv ∧ c = cmdSingle t r ∧ n = 6 ∧
    waits = [.waited (tConv r) (tConv r) .elapsed]) ∨
  ((i ∈ statusReadForms ∨ opOf i ∈ predicateOps) ∧ started i s = none ∧
    c = cmdFixed t .statusRead ∧ n = 3 ∧ waits = []) ∨
  (∃ thr, i ∈ alertReadForms thr ∧ c = cmdAlertRead t thr ∧ n = 3 ∧ waits = [])

/-- The durations of the first `k` retry waits of a FETCH whose cadence interval is `t` (R205). -/
def retryWaits (t : Nat) : Nat → List Nat
  | 0 => []
  | k + 1 => t :: List.replicate k (t / 10)

/-- The duration of the `k`-th retry wait, counted from 0 (R205). -/
def retryWait (t k : Nat) : Nat := if k = 0 then t else t / 10

/-- The events of refused reads, each followed by a full wait (R205). -/
def refusedReads (waits : List Nat) : List Event :=
  waits.flatMap fun w => [.read 6 .nack, .waited w w .elapsed]

/-- What WAIT_US holds after `k` waits of a FETCH (R205). -/
def waitUsAfter (t k : Nat) : BitVec 21 := BitVec.ofNat 21 (retryWait t k)

/-- The write events of a trace. -/
def writeCount (es : List Event) : Nat :=
  es.countP fun e => match e with | .write _ _ => true | .read _ _ => false | .waited _ _ _ => false

/-- The read events of a trace. -/
def readCount (es : List Event) : Nat :=
  es.countP fun e => match e with | .write _ _ => false | .read _ _ => true | .waited _ _ _ => false

/-- The wait events of a trace. -/
def waitCount (es : List Event) : Nat :=
  es.countP fun e => match e with | .write _ _ => false | .read _ _ => false | .waited _ _ _ => true

/-- The time waited in a trace, in microseconds (R38). -/
def waitedTotal (es : List Event) : ℕ :=
  (es.map fun e => match e with | .write _ _ => 0 | .read _ _ => 0 | .waited _ actual _ => actual).sum

/-- An event that can cross the boundary: a write of 2 or 5 bytes (R50); a read of 3 or 6 bytes whose
`Ok` brings exactly as many (R51); a wait that lasted its duration, or was aborted strictly before
(R260, R261). -/
def EventOk : Event → Prop
  | .write bytes _ => bytes.length = 2 ∨ bytes.length = 5
  | .read n (.ok bytes) => (n = 3 ∨ n = 6) ∧ bytes.length = n
  | .read n .nack => n = 3 ∨ n = 6
  | .read n .ioErr => n = 3 ∨ n = 6
  | .waited us e .elapsed => e = us
  | .waited us e .cancelled => e < us
  | .waited us e .deadlineExceeded => e < us

end Sys2Proof.Safety
end

