-- ==== Sys2Proof/Certificates/Slice0/Obligations.lean ====
section
/-! DEFINITION. The statements for the provers. "log n" is notes/assumptions/n.md. A statement that names no
value of a parameter holds for every configuration record (00_scope.md R6). -/

open Sys2Proof Sys2Proof.Machine Sys2Proof.Config Sys2Proof.Safety

/-! ## Encodings -/

/-- Every legal instruction is read back from the word it is encoded as, with every operand, where the
numbers of the operations and the command words are distinct, as the defaults are (30_encoding.md
sections 1 and 3). -/
def Obligations.DecodeOfEncode : Prop :=
  ∀ (p : Params) (i : Instr), EncodingsDistinct p → WellFormed i → decode p (encode p i) = .ok i

/-- The decoder accepts nothing but the encodings of legal instructions: every accepted word is
re-encoded to itself, so no bit of it is ignored (R73, R74). -/
def Obligations.DecodeOnlyEncodings : Prop :=
  ∀ (p : Params) (e : Encoded) (i : Instr), decode p e = .ok i → WellFormed i ∧ encode p i = e

/-- Words written out from the encodings of R70 to R72 and R80 to R112 are read as their instructions:
one of each kind of operand, and some illegal ones (R73). -/
def Obligations.DecodesWrittenWords : Prop :=
  let decode := decode defaultParams
  decode (.request 0x01FFBEEF#32) = .ok (.crc8 0xFF#8 0xBE#8 0xEF#8) ∧
  decode (.request 0x02006000#32) = .ok (.code2c 0x6000#16) ∧
  decode (.request 0x07060001#32) = .ok (.cmdenc 1#4 2#2 1#3 0#2) ∧
  decode (.request 0x10800000#32) = .ok (.singleShot 0#2 true) ∧
  decode (.request 0x11060000#32) = .ok (.startPeriodic 1#3 2#2) ∧
  decode (.request 0x1B600000#32) = .ok (.alertWrite 3#2) ∧
  decode (.command 0x2130#16) = .ok .cmdPer1High ∧
  decode (.request 0x10030000#32) = .error .badResolution ∧
  decode (.request 0x111C0000#32) = .error .badCadence ∧
  decode (.request 0x13800000#32) = .error .unusedField ∧
  decode (.request 0x27000000#32) = .error .unknownOp

/-! ## The step -/

/-- A step of a block that is not busy runs the instruction its next input stands for. A write of REQ is
decoded and accepted: REQ holds it, and BUSY goes to 1 (R28, R74). The model's own: the list of inputs
(log 1), and a run asked for by a command's name, which leaves REQ alone (log 7). A word of the opcode
table that is placed as the next input is run by the next step. -/
def Obligations.StepRunsDecoded : Prop :=
  ∀ (s : State) (rest : List Input), s.busy = false →
    (∀ w i, s.inputs = .writeReq w :: rest → decodeReq s.params.hostop w = .ok i →
      step s = exec i { s with req := w, busy := true, inputs := rest }) ∧
    (∀ c, s.inputs = .emit c :: rest →
      step s = exec (commandInstr c) { s with busy := true, inputs := rest }) ∧
    (∀ (w : Word32) i, decode s.params (.request w) = .ok i →
      step (s.withFetchWord 32 w.toNat) = exec i { s with req := w, busy := true }) ∧
    (∀ (c : Word) i, decode s.params (.command c) = .ok i →
      step (s.withFetchWord 16 c.toNat) = exec i { s with busy := true })

/-- An illegal request ends at once with `InvalidRequest` and writes nothing but REQ, R_ERR, FSM (to
`quiescent()`) and BUSY: no transaction, no wait, no handle register, no other result (R73, R255,
R258). The input list is the model's (log 1). -/
def Obligations.IllegalRequestRefused : Prop :=
  ∀ (s : State) (w : Word32) (rest : List Input) (e : DecodeError), s.busy = false →
    s.inputs = .writeReq w :: rest → decodeReq s.params.hostop w = .error e →
    step s = .next { s with
      req := w, inputs := rest, rErr := errCode s.params.errCode .invalidRequest
      fsm := quiescent s, busy := false }

/-- The host's other moves (R300): a write of A0 or A1 while BUSY = 0 changes that register alone. The
model's own choices: with no input a step leaves the state as it is, whatever BUSY holds (log 17; with
BUSY = 0 the block waits for a request, with BUSY = 1 it hangs, log 14), the inputs are a list (log 1),
and an input that finds BUSY = 1 faults (log 12). -/
def Obligations.OtherInputs : Prop :=
  ∀ (s : State) (rest : List Input),
    (s.inputs = [] → step s = .next s) ∧
    (∀ v, s.busy = false → s.inputs = .writeA0 v :: rest →
      step s = .next { s with a0 := v, inputs := rest }) ∧
    (∀ v, s.busy = false → s.inputs = .writeA1 v :: rest →
      step s = .next { s with a1 := v, inputs := rest }) ∧
    (∀ x, s.busy = true → s.inputs = x :: rest → step s = .fault .overlappingRequest)

/-! ## Checksum unit -/

/-- CRC8 completes, with the checksum of its operands in R_CRC and nothing else written but R_ERR and
the end of the operation (R132); the checksum at the spec's vectors, with the default polynomial (R135,
R136; 95_test_vectors.md section 2.1). -/
def Obligations.Crc8Completes : Prop :=
  (∀ (seed b0 b1 : Byte) (s : State),
    exec (.crc8 seed b0 b1) s =
      .next { s with
        rCrc := crc8 s.params.crcPoly seed b0 b1, rErr := 0#4, fsm := quiescent s, busy := false }) ∧
  let crc := crc8 defaultParams.crcPoly
  crc 0xFF#8 0xBE#8 0xEF#8 = 0x92#8 ∧ crc 0xFF#8 0#8 0#8 = 0x81#8 ∧ crc 0#8 0#8 0#8 = 0#8 ∧
  crc 0xAC#8 0xFF#8 0xFF#8 = 0x66#8 ∧ crc 0#8 0#8 1#8 = 0x31#8 ∧ crc 0#8 0x80#8 0#8 = 0x23#8

/-- The checksum is affine over GF(2) at every polynomial, and at the default one any single-bit flip of
the payload changes it (R135). -/
def Obligations.Crc8SingleBitSensitive : Prop :=
  (∀ g s p0 p1 q0 q1 : Byte,
    crc8 g s p0 p1 ^^^ crc8 g s q0 q1 = crc8 g 0#8 (p0 ^^^ q0) (p1 ^^^ q1)) ∧
  (∀ (s b0 b1 : Byte) (i : Fin 16),
    let crc := crc8 defaultParams.crcPoly
    crc s (hi8 (word b0 b1 ^^^ BitVec.twoPow 16 i)) (lo8 (word b0 b1 ^^^ BitVec.twoPow 16 i)) ≠
      crc s b0 b1)

/-! ## Unit conversion unit -/

/-- `t_centi` is the rounding, half away from zero, of the exact rational formula; it is also the formula
with integers only, over a numerator of 31 bits and a sign; its range is -4500 to 13000, and it is
non-decreasing (R141). -/
def Obligations.TCentiFormula : Prop :=
  let tCenti := tCenti .exact
  (∀ code : Word,
    let x : ℚ := 100 * ((code.toNat : ℚ) * 175 / 65535 - 45)
    let n : ℤ := 17500 * code.toNat - 294907500
    tCenti code = (if 0 ≤ x then ⌊x + 1 / 2⌋ else -⌊-x + 1 / 2⌋) ∧
    tCenti code = n.sign * ((2 * |n| + 65535) / (2 * 65535)) ∧
    -294907500 ≤ n ∧ n ≤ 851955000) ∧
  tCenti 0#16 = -4500 ∧ tCenti 0xFFFF#16 = 13000 ∧
  (∀ a b : Word, a.toNat ≤ b.toNat → tCenti a ≤ tCenti b)

/-- `rh_centi` is the rounding, half away from zero, of the exact rational formula; it is also the floor
of the formula with integers only, over a numerator of 30 bits; its range is 0 to 10000, and it is
non-decreasing (R142). -/
def Obligations.RhCentiFormula : Prop :=
  let rhCenti := rhCenti .exact
  (∀ code : Word,
    rhCenti code = ⌊100 * ((code.toNat : ℚ) * 100 / 65535) + 1 / 2⌋ ∧
    rhCenti code = ⌊((2 * 10000 * code.toNat + 65535 : ℕ) : ℚ) / (2 * 65535)⌋ ∧
    10000 * code.toNat ≤ 655350000) ∧
  rhCenti 0#16 = 0 ∧ rhCenti 0xFFFF#16 = 10000 ∧
  (∀ a b : Word, a.toNat ≤ b.toNat → rhCenti a ≤ rhCenti b)

/-- With CONV_ARITH binary32 no forward result is more than one hundredth away from the exact one (R140;
93_implementation_defined.md U6). Which operations of the formula are rounded is read from U6
(log 16). -/
def Obligations.Binary32WithinOneHundredth : Prop :=
  ∀ code : Word,
    |tCenti .binary32 code - tCenti .exact code| ≤ 1 ∧
    |rhCenti .binary32 code - rhCenti .exact code| ≤ 1

/-- `t_code` of the rational `n / d` in -45 to 130 is the truncation of the exact formula, which is its
floor there, or its nearest integer under the other value of INV_ROUNDING; it lies between 0, at -45, and
65535, at 130 (R146). -/
def Obligations.TCodeFormula : Prop :=
  (∀ (n : ℤ) (d : ℕ), 0 < d → (-45 : ℤ) * d ≤ n → n ≤ 130 * d →
    let x : ℚ := ((n : ℚ) / d + 45) * 65535 / 175
    0 ≤ x ∧ tCode .truncate n d = ⌊x⌋ ∧ tCode .nearest n d = ⌊x + 1 / 2⌋ ∧
    (∀ r, 0 ≤ tCode r n d ∧ tCode r n d ≤ 65535)) ∧
  (∀ r, tCode r (-45) 1 = 0 ∧ tCode r 130 1 = 65535)

/-- `rh_code` of the rational `n / d` in 0 to 100 is the truncation of the exact formula, or its nearest
integer under the other value of INV_ROUNDING, and lies between 0 and 65535 (R147). -/
def Obligations.RhCodeFormula : Prop :=
  (∀ (n : ℤ) (d : ℕ), 0 < d → 0 ≤ n → n ≤ 100 * d →
    let x : ℚ := (n : ℚ) / d * 65535 / 100
    0 ≤ x ∧ rhCode .truncate n d = ⌊x⌋ ∧ rhCode .nearest n d = ⌊x + 1 / 2⌋ ∧
    (∀ r, 0 ≤ rhCode r n d ∧ rhCode r n d ≤ 65535)) ∧
  (∀ r, rhCode r 0 1 = 0 ∧ rhCode r 100 1 = 65535)

/-- Value to code to value loses less than one hundredth of a unit, under either rounding (R150). -/
def Obligations.ValueRoundTripWithinHundredth : Prop :=
  (∀ (r : InvRounding) (n : ℤ) (d : ℕ), 0 < d → (-45 : ℤ) * d ≤ n → n ≤ 130 * d →
    |((tCenti .exact (BitVec.ofInt 16 (tCode r n d)) : ℤ) : ℚ) / 100 - (n : ℚ) / d| < 1 / 100) ∧
  (∀ (r : InvRounding) (n : ℤ) (d : ℕ), 0 < d → 0 ≤ n → n ≤ 100 * d →
    |((rhCenti .exact (BitVec.ofInt 16 (rhCode r n d)) : ℤ) : ℚ) / 100 - (n : ℚ) / d| < 1 / 100)

/-- The binary32 of `c` hundredths is a binary32 nearest to `c / 100`: finite, no negative zero, and no
finite binary32 is nearer (R10, R143). Values are counted in units of 2^-149. -/
def Obligations.PhysicalFloatIsNearest : Prop :=
  ∀ c : ℤ, -4500 ≤ c → c ≤ 13000 →
    CleanFloat (b32Centi c) ∧
    ∀ f : Word32, f32Finite f = true →
      |100 * f32Num (b32Centi c) - c * f32Den| ≤ |100 * f32Num f - c * f32Den|

/-- CODE2C and CODE2RH complete with the hundredths and the binary32 of their code, and write nothing
else but R_ERR and the end of the operation (R144, R145). -/
def Obligations.ForwardConversionsComplete : Prop :=
  ∀ (code : Word) (s : State),
    let tc := tCenti s.params.convArith code
    let hc := rhCenti s.params.convArith code
    exec (.code2c code) s =
      .next { s with
        rTcenti := BitVec.ofInt 16 tc, rTf32 := b32Centi tc
        rErr := 0#4, fsm := quiescent s, busy := false } ∧
    exec (.code2rh code) s =
      .next { s with
        rRhcenti := BitVec.ofInt 16 hc, rRhf32 := b32Centi hc
        rErr := 0#4, fsm := quiescent s, busy := false }

/-- C2CODE with A0 a finite binary32 in -45 to 130, and RH2CODE with A0 one in 0 to 100, complete with the
code of its exact value; on every other A0 they end with `InvalidRequest` and write no result (R148,
R149). -/
def Obligations.InverseConversionsCompleteOrRefuse : Prop :=
  ∀ s : State,
    let refused : Host.Outcome State Fault Refusal :=
      .next { s with
        rErr := errCode s.params.errCode .invalidRequest, fsm := quiescent s, busy := false }
    (f32Finite s.a0 = true → -45 * (f32Den : ℤ) ≤ f32Num s.a0 → f32Num s.a0 ≤ 130 * (f32Den : ℤ) →
      exec .c2code s =
        .next { s with
          rTcode := BitVec.ofInt 16 (tCode s.params.invRounding (f32Num s.a0) f32Den)
          rErr := 0#4, fsm := quiescent s, busy := false }) ∧
    ((f32Finite s.a0 = false ∨ f32Num s.a0 < -45 * (f32Den : ℤ) ∨ 130 * (f32Den : ℤ) < f32Num s.a0) →
      exec .c2code s = refused) ∧
    (f32Finite s.a0 = true → 0 ≤ f32Num s.a0 → f32Num s.a0 ≤ 100 * (f32Den : ℤ) →
      exec .rh2code s =
        .next { s with
          rRhcode := BitVec.ofInt 16 (rhCode s.params.invRounding (f32Num s.a0) f32Den)
          rErr := 0#4, fsm := quiescent s, busy := false }) ∧
    ((f32Finite s.a0 = false ∨ f32Num s.a0 < 0 ∨ 100 * (f32Den : ℤ) < f32Num s.a0) →
      exec .rh2code s = refused)

/-! ## Command table -/

/-- CMDENC completes with the opcode of each legal class and selectors in R_CMD, and sends nothing
(R165). -/
def Obligations.CmdencCompletes : Prop :=
  ∀ (s : State) (c : Cadence) (r : Resolution) (thr : BitVec 2),
    let t := s.params.cmd
    let ok : Word → Host.Outcome State Fault Refusal := fun w =>
      .next { s with rCmd := w, rErr := 0#4, fsm := quiescent s, busy := false }
    exec (.cmdenc 0#4 (resolutionBits r) 0#3 0#2) s = ok (cmdSingle t r) ∧
    exec (.cmdenc 1#4 (resolutionBits r) (cadenceBits c) 0#2) s = ok (cmdPeriodic t c r) ∧
    exec (.cmdenc 2#4 0#2 0#3 0#2) s = ok (cmdFixed t .fetch) ∧
    exec (.cmdenc 3#4 0#2 0#3 0#2) s = ok (cmdFixed t .brk) ∧
    exec (.cmdenc 4#4 0#2 0#3 0#2) s = ok (cmdFixed t .reset) ∧
    exec (.cmdenc 5#4 0#2 0#3 0#2) s = ok (cmdFixed t .heaterOn) ∧
    exec (.cmdenc 6#4 0#2 0#3 0#2) s = ok (cmdFixed t .heaterOff) ∧
    exec (.cmdenc 7#4 0#2 0#3 0#2) s = ok (cmdFixed t .statusRead) ∧
    exec (.cmdenc 8#4 0#2 0#3 0#2) s = ok (cmdFixed t .statusClear) ∧
    exec (.cmdenc 9#4 0#2 0#3 thr) s = ok (cmdAlertRead t (threshold thr)) ∧
    exec (.cmdenc 10#4 0#2 0#3 thr) s = ok (cmdAlertWrite t (threshold thr))

/-- The lookup tables at the default of CMD (R160 to R162): the three single-shot opcodes, the fifteen
periodic-start opcodes, the seven fixed ones and the eight alert-limit ones. -/
def Obligations.CommandTableValues : Prop :=
  let t := defaultParams.cmd
  [Resolution.low, .medium, .high].map (cmdSingle t) = [0x2416#16, 0x240B#16, 0x2400#16] ∧
  [Cadence.half, .one, .two, .four, .ten].map (fun c =>
      [Resolution.low, .medium, .high].map (cmdPeriodic t c)) =
    [[0x202F#16, 0x2024#16, 0x2032#16], [0x212D#16, 0x2126#16, 0x2130#16],
     [0x222B#16, 0x2220#16, 0x2236#16], [0x2329#16, 0x2322#16, 0x2334#16],
     [0x272A#16, 0x2721#16, 0x2737#16]] ∧
  [FixedCmd.fetch, .brk, .reset, .heaterOn, .heaterOff, .statusRead, .statusClear].map (cmdFixed t) =
    [0xE000#16, 0x3093#16, 0x30A2#16, 0x306D#16, 0x3066#16, 0xF32D#16, 0x3041#16] ∧
  [Threshold.highSet, .highClear, .lowClear, .lowSet].map (cmdAlertRead t) =
    [0xE11F#16, 0xE114#16, 0xE109#16, 0xE102#16] ∧
  [Threshold.highSet, .highClear, .lowClear, .lowSet].map (cmdAlertWrite t) =
    [0x611D#16, 0x6116#16, 0x610B#16, 0x6100#16]

/-- What the protocol needs of the table CMD (R163): a word is a periodic-start opcode exactly when it is
the one of a cadence and a resolution, and a table that meets R163 determines both by it. The default
record meets every constraint of the spec, under both values of LC_POLICY, its 33 words are distinct,
and its error codes are those of R250. -/
def Obligations.ParameterConstraints : Prop :=
  (∀ (t : CmdTable) (w : Word), isPeriodic t w = true ↔ ∃ c r, w = cmdPeriodic t c r) ∧
  (∀ (p : Params) (c c' : Cadence) (r r' : Resolution), TableOk p →
    cmdPeriodic p.cmd c r = cmdPeriodic p.cmd c' r' → c = c' ∧ r = r') ∧
  (∀ policy, ParamsOk { defaultParams with lcPolicy := policy }) ∧
  EncodingsDistinct defaultParams ∧
  errorCodes.map (errCode defaultParams.errCode) = [1#4, 2#4, 3#4, 4#4, 5#4, 6#4, 15#4]

/-! ## Register/status model -/

/-- `st_decode(w)` (R172): bit `f` of the result is `w[STATUS_BIT(f)]`; at the default positions of R170 the
nine other bits of the word are ignored. -/
def Obligations.StatusDecodeBits : Prop :=
  (∀ (b : StatusBits) (w : Word) (f : StatusFlag),
    (stDecode b w).getLsbD (flagIndex f) = w.getLsbD (statusBit b f)) ∧
  statusFlags.map (fun f => (flagIndex f, statusBit defaultParams.statusBit f)) =
    [(0, 15), (1, 13), (2, 11), (3, 10), (4, 4), (5, 1), (6, 0)] ∧
  (∀ v w : Word, v &&& 0xAC13#16 = w &&& 0xAC13#16 ↔
    stDecode defaultParams.statusBit v = stDecode defaultParams.statusBit w)

/-- STDEC completes with the word and its flags, and leaves the cache alone (R173). -/
def Obligations.StdecCompletes : Prop :=
  ∀ (w : Word) (s : State),
    exec (.stdec w) s =
      .next { s with
        rWord := w, rFlags := stDecode s.params.statusBit w
        rErr := 0#4, fsm := quiescent s, busy := false }

/-- STATUS_READ with a cached word completes from the cache: no transaction (R174). At other values of
ST_INVALIDATORS the same holds of STATUS_FRESH, CMD_STATUS_READ and the predicates, wherever they are
outside the set (log 21). -/
def Obligations.StatusReadHit : Prop :=
  ∀ (i : Instr) (s : State) (w : Word), s.stCache = some w → opOf i ∉ s.params.stInvalidators →
    (i ∈ statusReadForms →
      exec i s =
        .next { s with
          rWord := w, rFlags := stDecode s.params.statusBit w
          rErr := 0#4, fsm := quiescent s, busy := false }) ∧
    (∀ f, (i, f) ∈ predicateForms →
      exec i s =
        .next { s with
          rWord := w, rFlags := stDecode s.params.statusBit w
          rBool := w.getLsbD (statusBit s.params.statusBit f)
          rErr := 0#4, fsm := quiescent s, busy := false })

/-- STATUS_READ, STATUS_FRESH and CMD_STATUS_READ complete by the two transactions of a status read where
the transport answers with a good block and no word is cached after their first step: the word is
cached and delivered (R174, R175; STATUS_FRESH is an invalidator, R176; the command word is log 7's and
log 8's). -/
def Obligations.StatusMissCompletes : Prop :=
  ∀ (i : Instr) (s : State) (d0 d1 : Byte) (ws : List (Option WriteAnswer))
    (rs : List (Option ReadAnswer)),
    let c := cmdFixed s.params.cmd .statusRead
    let block := goodBlockBytes s.params d0 d1
    let w := busWord s.params.wordOrder d0 d1
    i ∈ statusReadForms → started i s = none →
    s.writeScript = some .ok :: ws → s.readScript = some (.ok block) :: rs →
    exec i s =
      .next { s with
        stCache := some w, lastCmd := recorded s c
        rWord := w, rFlags := stDecode s.params.statusBit w
        rErr := 0#4, fsm := fsmAfter s (recorded s c), busy := false
        writeScript := ws, readScript := rs
        trace := s.trace ++ [.write (cmdBytes c) .ok, .read 3 (.ok block)] }

/-- A predicate completes by a fresh status read and the test of its flag, whatever was cached before (R180
to R186, R188; the predicates are invalidators, R176). -/
def Obligations.PredicatesComplete : Prop :=
  ∀ (i : Instr) (f : StatusFlag) (s : State) (d0 d1 : Byte) (ws : List (Option WriteAnswer))
    (rs : List (Option ReadAnswer)),
    let c := cmdFixed s.params.cmd .statusRead
    let block := goodBlockBytes s.params d0 d1
    let w := busWord s.params.wordOrder d0 d1
    (i, f) ∈ predicateForms → started i s = none →
    s.writeScript = some .ok :: ws → s.readScript = some (.ok block) :: rs →
    exec i s =
      .next { s with
        stCache := some w, lastCmd := recorded s c
        rWord := w, rFlags := stDecode s.params.statusBit w
        rBool := w.getLsbD (statusBit s.params.statusBit f)
        rErr := 0#4, fsm := fsmAfter s (recorded s c), busy := false
        writeScript := ws, readScript := rs
        trace := s.trace ++ [.write (cmdBytes c) .ok, .read 3 (.ok block)] }

/-- HEATER_ON, HEATER_OFF, CLEAR_STATUS and their command words complete when their write is answered
`Ok`: the cache is emptied by ST_INVALIDATORS (R176), the command is recorded under AllButFetch only, and
nothing waits (R177 to R179; the command words are log 7's). -/
def Obligations.StatusCommandsComplete : Prop :=
  ∀ (i : Instr) (f : FixedCmd) (s : State) (ws : List (Option WriteAnswer)),
    let c := cmdFixed s.params.cmd f
    (i, f) ∈ statusCommandForms → s.writeScript = some .ok :: ws →
    exec i s =
      .next { s with
        stCache := started i s, lastCmd := recorded s c
        rErr := 0#4, fsm := fsmAfter s (recorded s c), busy := false
        writeScript := ws
        trace := s.trace ++ [.write (cmdBytes c) .ok] }

/-! ## Measurement protocol engine -/

/-- SINGLE_SHOT, and CMD_SS_LOW, CMD_SS_MEDIUM, CMD_SS_HIGH without conversion, complete when the
transport answers both transactions and both checksums are good: the command, the conversion wait, one
read, and the sample delivered, in physical units only where `conv` asks for them (R200 to R202; the
command words are log 7's and log 8's). -/
def Obligations.SingleShotCompletes : Prop :=
  ∀ (r : Resolution) (conv : Bool) (i : Instr) (s : State) (t0 t1 h0 h1 : Byte)
    (ws : List (Option WriteAnswer)) (rs : List (Option ReadAnswer)),
    let c := cmdSingle s.params.cmd r
    let frame := goodFrameBytes s.params t0 t1 h0 h1
    let tc := busWord s.params.wordOrder t0 t1
    let hc := busWord s.params.wordOrder h0 h1
    let t := tCenti s.params.convArith tc
    let h := rhCenti s.params.convArith hc
    i ∈ singleShotForms r conv →
    s.writeScript = some .ok :: ws → s.readScript = some (.ok frame) :: rs →
    exec i s =
      .next { s with
        stCache := started i s, lastCmd := recorded s c
        rTcode := tc, rRhcode := hc
        rTcenti := if conv then BitVec.ofInt 16 t else s.rTcenti
        rTf32 := if conv then b32Centi t else s.rTf32
        rRhcenti := if conv then BitVec.ofInt 16 h else s.rRhcenti
        rRhf32 := if conv then b32Centi h else s.rRhf32
        rErr := 0#4, fsm := fsmAfter s (recorded s c), busy := false
        writeScript := ws, readScript := rs
        trace := s.trace ++
          [.write (cmdBytes c) .ok, .waited (tConv r) (tConv r) .elapsed, .read 6 (.ok frame)] }

/-- START_PERIODIC and the fifteen CMD_PER_ command words complete when their write is answered `Ok`:
after the conversion wait the session descriptor and the opcode are recorded together, and the session
is active (R203; the command words are log 7's). -/
def Obligations.StartPeriodicCompletes : Prop :=
  ∀ (c : Cadence) (r : Resolution) (i : Instr) (s : State) (ws : List (Option WriteAnswer)),
    let w := cmdPeriodic s.params.cmd c r
    i ∈ startPeriodicForms c r → s.writeScript = some .ok :: ws →
    exec i s =
      .next { s with
        stCache := started i s, cadence := cadenceBits c, resolution := resolutionBits r
        lastCmd := some w
        rErr := 0#4, fsm := .continuousRunning, busy := false
        writeScript := ws
        trace := s.trace ++ [.write (cmdBytes w) .ok, .waited (tConv r) (tConv r) .elapsed] }

/-- FETCH, and CMD_FETCH without conversion, complete in an active session when the transport refuses
the first `k` reads, 0 to 5, answers the next with a good frame, and no wait is aborted: the fetch
command is sent once, the waits are the cadence interval and then tenths of it, the sample is
delivered, and the session is left as it is (R205, R206, R210; the command word is log 7's and
log 8's). -/
def Obligations.FetchCompletesAfterRetries : Prop :=
  ∀ (k : ℕ) (conv : Bool) (i : Instr) (s : State) (c : Cadence) (r : Resolution) (t0 t1 h0 h1 : Byte)
    (ws : List (Option WriteAnswer)) (rs : List (Option ReadAnswer)) (gs : List Signal),
    let frame := goodFrameBytes s.params t0 t1 h0 h1
    let tc := busWord s.params.wordOrder t0 t1
    let hc := busWord s.params.wordOrder h0 h1
    let t := tCenti s.params.convArith tc
    let h := rhCenti s.params.convArith hc
    k ≤ 5 → i ∈ fetchForms conv → activeSession s = some (c, r) →
    s.writeScript = some .ok :: ws →
    s.readScript = List.replicate k (some .nack) ++ (some (.ok frame) :: rs) →
    s.waitScript = List.replicate k .quiet ++ gs →
    exec i s =
      .next { s with
        stCache := started i s
        retry := BitVec.ofNat 3 (5 - k), waitUs := waitUsAfter (tInterval c) k
        rTcode := tc, rRhcode := hc
        rTcenti := if conv then BitVec.ofInt 16 t else s.rTcenti
        rTf32 := if conv then b32Centi t else s.rTf32
        rRhcenti := if conv then BitVec.ofInt 16 h else s.rRhcenti
        rRhf32 := if conv then b32Centi h else s.rRhf32
        rErr := 0#4, fsm := .continuousRunning, busy := false
        writeScript := ws, readScript := rs, waitScript := gs
        trace := s.trace ++
          ([.write (cmdBytes (cmdFixed s.params.cmd .fetch)) .ok] ++
            refusedReads (retryWaits (tInterval c) k) ++ [.read 6 (.ok frame)]) }

/-- FETCH in an active session whose six reads are all refused ends with `BusNotAcknowledging` after
exactly six reads and five waits: no wait follows the last read, no result but R_ERR is written and
the session stays active (R205, R206, R210, R252). Command words: log 7. -/
def Obligations.FetchBudgetExhausted : Prop :=
  ∀ (conv : Bool) (i : Instr) (s : State) (c : Cadence) (r : Resolution)
    (ws : List (Option WriteAnswer)) (rs : List (Option ReadAnswer)) (gs : List Signal),
    i ∈ fetchForms conv → activeSession s = some (c, r) →
    s.writeScript = some .ok :: ws →
    s.readScript = List.replicate 6 (some .nack) ++ rs →
    s.waitScript = List.replicate 5 .quiet ++ gs →
    exec i s =
      .next { s with
        stCache := started i s
        retry := 0#3, waitUs := waitUsAfter (tInterval c) 5
        rErr := errCode s.params.errCode .busNotAcknowledging
        fsm := .continuousRunning, busy := false
        writeScript := ws, readScript := rs, waitScript := gs
        trace := s.trace ++
          ([.write (cmdBytes (cmdFixed s.params.cmd .fetch)) .ok] ++
            refusedReads (retryWaits (tInterval c) 5) ++ [.read 6 .nack]) }

/-- FETCH aborted in its `k`-th retry wait, counted from 0 to 4, by a cancel call or a deadline that
fires before the wait's duration has passed: it ends at once with `Cancelled` or `DeadlineExceeded`, no
read follows, and the session stays active (R205, R206, R211, R256, R257, R261).
Command words: log 7. -/
def Obligations.FetchAbortedInWait : Prop :=
  ∀ (k e : ℕ) (conv : Bool) (i : Instr) (s : State) (c : Cadence) (r : Resolution)
    (ws : List (Option WriteAnswer)) (rs : List (Option ReadAnswer)) (gs : List Signal) (g : Signal)
    (o : WaitOutcome) (code : ErrCode),
    k ≤ 4 → e < retryWait (tInterval c) k →
    (g = .cancelAt e ∧ o = .cancelled ∧ code = .cancelled ∨
      g = .deadlineAt e ∧ o = .deadlineExceeded ∧ code = .deadlineExceeded) →
    i ∈ fetchForms conv → activeSession s = some (c, r) →
    s.writeScript = some .ok :: ws →
    s.readScript = List.replicate (k + 1) (some .nack) ++ rs →
    s.waitScript = List.replicate k .quiet ++ (g :: gs) →
    exec i s =
      .next { s with
        stCache := started i s
        retry := BitVec.ofNat 3 (5 - k), waitUs := waitUsAfter (tInterval c) k
        rErr := errCode s.params.errCode code, fsm := .continuousRunning, busy := false
        writeScript := ws, readScript := rs, waitScript := gs
        trace := s.trace ++
          ([.write (cmdBytes (cmdFixed s.params.cmd .fetch)) .ok] ++
            refusedReads (retryWaits (tInterval c) k) ++
            [.read 6 .nack, .waited (retryWait (tInterval c) k) e o]) }

/-- FETCH whose `k + 1`-th read answers `IoErr`, or brings a frame with a bad checksum in either block,
ends there with `BusIOError` or `ChecksumMismatch`: neither is retried, and no result but R_ERR is
written (R205, R206, R251, R253). Command words: log 7. -/
def Obligations.FetchFatalAnswers : Prop :=
  ∀ (k : ℕ) (conv : Bool) (i : Instr) (s : State) (c : Cadence) (r : Resolution)
    (a : ReadAnswer) (code : ErrCode)
    (ws : List (Option WriteAnswer)) (rs : List (Option ReadAnswer)) (gs : List Signal),
    k ≤ 5 → i ∈ fetchForms conv → activeSession s = some (c, r) →
    (a = .ioErr ∧ code = .busIOError ∨
      ∃ t0 t1 kt h0 h1 kh, a = .ok [t0, t1, kt, h0, h1, kh] ∧ code = .checksumMismatch ∧
        (blockCrc s.params t0 t1 ≠ kt ∨ blockCrc s.params h0 h1 ≠ kh)) →
    s.writeScript = some .ok :: ws →
    s.readScript = List.replicate k (some .nack) ++ (some a :: rs) →
    s.waitScript = List.replicate k .quiet ++ gs →
    exec i s =
      .next { s with
        stCache := started i s
        retry := BitVec.ofNat 3 (5 - k), waitUs := waitUsAfter (tInterval c) k
        rErr := errCode s.params.errCode code, fsm := .continuousRunning, busy := false
        writeScript := ws, readScript := rs, waitScript := gs
        trace := s.trace ++
          ([.write (cmdBytes (cmdFixed s.params.cmd .fetch)) .ok] ++
            refusedReads (retryWaits (tInterval c) k) ++ [.read 6 a]) }

/-- The retry schedule as numbers (R210), on the events that a FETCH in an active session adds to the
trace, no wait being aborted. After `k` refused reads, 0 to 5, and another answer: `k + 1` reads, `k`
waits, and `T` and `k - 1` tenths of `T` waited in all, `T` being the cadence interval (nothing for
`k = 0`). After six refused reads: six reads, five waits, and 2800000, 1400000, 700000, 350000 or 140000
microseconds by the cadence. Command words: log 7. -/
def Obligations.RetryScheduleTotals : Prop :=
  ∀ (conv : Bool) (i : Instr) (s : State) (c : Cadence) (r : Resolution)
    (ws : List (Option WriteAnswer)) (rs : List (Option ReadAnswer)) (gs : List Signal),
    let full : Cadence → ℕ := fun c =>
      match c with
      | .half => 2800000
      | .one => 1400000
      | .two => 700000
      | .four => 350000
      | .ten => 140000
    i ∈ fetchForms conv → activeSession s = some (c, r) → s.writeScript = some .ok :: ws →
    (∀ (k : ℕ) (a : ReadAnswer), k ≤ 5 → a ≠ .nack →
      s.readScript = List.replicate k (some .nack) ++ (some a :: rs) →
      s.waitScript = List.replicate k .quiet ++ gs →
      ∃ t es, exec i s = .next t ∧ t.trace = s.trace ++ es ∧
        readCount es = k + 1 ∧ waitCount es = k ∧
        waitedTotal es = if k = 0 then 0 else tInterval c + (k - 1) * (tInterval c / 10)) ∧
    (s.readScript = List.replicate 6 (some .nack) ++ rs →
      s.waitScript = List.replicate 5 .quiet ++ gs →
      ∃ t es, exec i s = .next t ∧ t.trace = s.trace ++ es ∧
        readCount es = 6 ∧ waitCount es = 5 ∧ waitedTotal es = full c ∧
        t.rErr = errCode s.params.errCode .busNotAcknowledging)

/-- `NoActiveAcquisition` (R254): FETCH raises it, with no transaction and nothing else written (but the
cache, where ST_INVALIDATORS holds FETCH, which the default does not, log 21), exactly when no session is
active; no other operation raises it. Command words: log 7. -/
def Obligations.NoActiveAcquisitionExactly : Prop :=
  (∀ (i : Instr) (s : State), opOf i = .fetch → sessionActive s = false →
    exec i s = .next { s with
      stCache := started i s, rErr := errCode s.params.errCode .noActiveAcquisition
      fsm := .idle, busy := false }) ∧
  (∀ (i : Instr) (s t : State), ParamsOk s.params → exec i s = .next t → t.busy = false →
    t.rErr = errCode s.params.errCode .noActiveAcquisition →
    opOf i = .fetch ∧ sessionActive s = false)

/-- `session_active()` (R32) holds exactly when a recorded command is one of the periodic-start opcodes
and is the one that CADENCE and RESOLUTION, valid encodings, imply. -/
def Obligations.SessionActiveIff : Prop :=
  ∀ s : State,
    sessionActive s = true ↔
      ∃ w c r, s.lastCmd = some w ∧ isPeriodic s.params.cmd w = true ∧ s.cadence = cadenceBits c ∧
        s.resolution = resolutionBits r ∧ w = cmdPeriodic s.params.cmd c r

/-- BREAK and CMD_BREAK complete in every state when their write is answered `Ok`: the break opcode is
recorded under both values of LC_POLICY, and at a table that meets R163 FSM goes to Idle and no session
is active after it (R207; the command word is log 7's). -/
def Obligations.BreakCompletes : Prop :=
  ∀ (i : Instr) (s : State) (ws : List (Option WriteAnswer)),
    let c := cmdFixed s.params.cmd .brk
    i = .brk ∨ i = .cmdBreak → s.writeScript = some .ok :: ws →
    ∃ t, exec i s = .next t ∧
      (TableOk s.params → sessionActive t = false ∧ t.fsm = .idle) ∧
      t = { s with
        stCache := started i s, lastCmd := some c
        rErr := 0#4, fsm := fsmAfter s (some c), busy := false
        writeScript := ws
        trace := s.trace ++ [.write (cmdBytes c) .ok] }

/-- RESET and CMD_RESET complete when their write is answered `Ok`: the command, the power-up wait, and
no register of the block but R_ERR, FSM and BUSY, and LC under AllButFetch; the status cache stays as
it is, RESET being no invalidator (R176, R208; the command word is log 7's). -/
def Obligations.ResetCompletes : Prop :=
  ∀ (i : Instr) (s : State) (ws : List (Option WriteAnswer)),
    let c := cmdFixed s.params.cmd .reset
    i = .reset ∨ i = .cmdReset → s.writeScript = some .ok :: ws →
    exec i s =
      .next { s with
        stCache := started i s, lastCmd := recorded s c
        rErr := 0#4, fsm := fsmAfter s (recorded s c), busy := false
        writeScript := ws
        trace := s.trace ++ [.write (cmdBytes c) .ok, .waited 1500 1500 .elapsed] }

/-! ## Alert-limit codec -/

/-- The alert word (R230, R231): packing what was split gives the word back, splitting what was packed
clears the bits that have no place, and bits 15:9 are the humidity field, bits 8:0 the temperature
field. -/
def Obligations.AlertWordLaws : Prop :=
  (∀ w : Word, alPack (alertTcode w) (alertRhcode w) = w) ∧
  (∀ tc hc : Word, alertTcode (alPack tc hc) = tc &&& 0xFF80#16 ∧
    alertRhcode (alPack tc hc) = hc &&& 0xFE00#16) ∧
  (∀ tc hc : Word, (alPack tc hc).extractLsb' 9 7 = hc.extractLsb' 9 7 ∧
    (alPack tc hc).extractLsb' 0 9 = tc.extractLsb' 7 9)

/-- ALPACK and ALUNPACK complete, and touch nothing but their results and the end of the operation
(R234, R235). -/
def Obligations.AlertCodecOperationsComplete : Prop :=
  ∀ (w : Word) (s : State),
    exec .alpack s =
      .next { s with
        rWord := alPack (s.a0.extractLsb' 0 16) (s.a0.extractLsb' 16 16)
        rErr := 0#4, fsm := quiescent s, busy := false } ∧
    exec (.alunpack w) s =
      .next { s with
        rTcode := alertTcode w, rRhcode := alertRhcode w
        rErr := 0#4, fsm := quiescent s, busy := false }

/-- ALERT_READ and the four CMD_ALERT_RD_ command words complete when the transport answers with a good
block: the word, its two codes and their physical values are delivered; the session descriptor stays,
and so does the cache, ALERT_READ being no invalidator (R176, R232; the command words are log 7's). -/
def Obligations.AlertReadCompletes : Prop :=
  ∀ (thr : Threshold) (i : Instr) (s : State) (d0 d1 : Byte) (ws : List (Option WriteAnswer))
    (rs : List (Option ReadAnswer)),
    let c := cmdAlertRead s.params.cmd thr
    let block := goodBlockBytes s.params d0 d1
    let w := busWord s.params.wordOrder d0 d1
    let t := tCenti s.params.convArith (alertTcode w)
    let h := rhCenti s.params.convArith (alertRhcode w)
    i ∈ alertReadForms thr →
    s.writeScript = some .ok :: ws → s.readScript = some (.ok block) :: rs →
    exec i s =
      .next { s with
        stCache := started i s, lastCmd := recorded s c
        rWord := w, rTcode := alertTcode w, rRhcode := alertRhcode w
        rTcenti := BitVec.ofInt 16 t, rTf32 := b32Centi t
        rRhcenti := BitVec.ofInt 16 h, rRhf32 := b32Centi h
        rErr := 0#4, fsm := fsmAfter s (recorded s c), busy := false
        writeScript := ws, readScript := rs
        trace := s.trace ++ [.write (cmdBytes c) .ok, .read 3 (.ok block)] }

/-- ALERT_WRITE and the four CMD_ALERT_WR_ command words complete when A0 and A1 are in their domains
and the write is answered `Ok`: the opcode, the packed word and its checksum travel in one transaction
of five bytes, one wait follows, and the full codes, the word and the checksum are delivered (R233,
R54, R55; the command words are log 7's). -/
def Obligations.AlertWriteCompletes : Prop :=
  ∀ (thr : Threshold) (i : Instr) (s : State) (x y : ℤ) (ws : List (Option WriteAnswer)),
    let c := cmdAlertWrite s.params.cmd thr
    let tc := BitVec.ofInt 16 (tCode s.params.invRounding x f32Den)
    let hc := BitVec.ofInt 16 (rhCode s.params.invRounding y f32Den)
    let w := alPack tc hc
    let d0 := if s.params.wordOrder = .msbFirst then hi8 w else lo8 w
    let d1 := if s.params.wordOrder = .msbFirst then lo8 w else hi8 w
    i ∈ alertWriteForms thr →
    celsius? s.a0 = some x → percent? s.a1 = some y → s.writeScript = some .ok :: ws →
    exec i s =
      .next { s with
        stCache := started i s, lastCmd := recorded s c
        rTcode := tc, rRhcode := hc, rWord := w, rCrc := blockCrc s.params d0 d1
        rErr := 0#4, fsm := fsmAfter s (recorded s c), busy := false
        writeScript := ws
        trace := s.trace ++
          [.write [hi8 c, lo8 c, d0, d1, blockCrc s.params d0 d1] .ok, .waited 1000 1000 .elapsed] }

/-! ## Failures -/

/-- A physical operand is accepted exactly when it is a finite binary32 in the domain, and is then its
exact value; ALERT_WRITE with an operand outside its domain ends with `InvalidRequest`, without a
transaction (R75, R233). Command words: log 7. -/
def Obligations.PhysicalOperandDomains : Prop :=
  (∀ (f : Word32) (n : ℤ), celsius? f = some n ↔
    f32Finite f = true ∧ -45 * (f32Den : ℤ) ≤ f32Num f ∧ f32Num f ≤ 130 * (f32Den : ℤ) ∧
      n = f32Num f) ∧
  (∀ (f : Word32) (n : ℤ), percent? f = some n ↔
    f32Finite f = true ∧ 0 ≤ f32Num f ∧ f32Num f ≤ 100 * (f32Den : ℤ) ∧ n = f32Num f) ∧
  (∀ (thr : Threshold) (i : Instr) (s : State), i ∈ alertWriteForms thr →
    celsius? s.a0 = none ∨ percent? s.a1 = none →
    exec i s = .next { s with
      rErr := errCode s.params.errCode .invalidRequest, fsm := quiescent s, busy := false })

/-- An instruction whose operand bits are no legal request (R73) ends with `InvalidRequest` and has no
other effect (R258). That `exec` says so by itself, and not the decoder alone, is the model's choice
(log 20). -/
def Obligations.IllFormedOperandsRefused : Prop :=
  ∀ (i : Instr) (s : State), wellFormed i = false →
    exec i s = .next { s with
      rErr := errCode s.params.errCode .invalidRequest, fsm := quiescent s, busy := false }

/-- A BusWrite that fails ends every operation that makes one: `Nack` with BusNotAcknowledging, `IoErr`
with BusIOError (R252, R253). What is already written is the emptied cache of the operations that
invalidate first, and nothing else (R176, R259); the failed frame is the last event.
Command words: log 7. -/
def Obligations.WriteFailureEndsOperation : Prop :=
  ∀ (i : Instr) (bytes : List Byte) (s : State) (a : WriteAnswer) (code : ErrCode)
    (ws : List (Option WriteAnswer)),
    SendsFrame i bytes s →
    (a = .nack ∧ code = .busNotAcknowledging ∨ a = .ioErr ∧ code = .busIOError) →
    s.writeScript = some a :: ws →
    exec i s =
      .next { s with
        stCache := started i s
        rErr := errCode s.params.errCode code, fsm := quiescent s, busy := false
        writeScript := ws, trace := s.trace ++ [.write bytes a] }

/-- A single read that fails, by `Nack`, `IoErr` or a bad checksum, ends SINGLE_SHOT, STATUS_READ on a
miss, STATUS_FRESH, the predicates and ALERT_READ with its code: no retry, and no result but R_ERR
(R200, R251 to R253, R259). Command words: log 7. -/
def Obligations.ReadFailureEndsOperation : Prop :=
  ∀ (i : Instr) (c : Word) (n : ℕ) (waits : List Event) (s : State) (a : ReadAnswer)
    (code : ErrCode) (ws : List (Option WriteAnswer)) (rs : List (Option ReadAnswer)),
    ReadsOnce i c n waits s →
    (a = .nack ∧ code = .busNotAcknowledging ∨ a = .ioErr ∧ code = .busIOError ∨
      ∃ bytes, a = .ok bytes ∧ bytes.length = n ∧ code = .checksumMismatch ∧
        (blockWord s.params bytes 0 = none ∨ n = 6 ∧ blockWord s.params bytes 3 = none)) →
    s.writeScript = some .ok :: ws → s.readScript = some a :: rs →
    exec i s =
      .next { s with
        stCache := started i s, lastCmd := recorded s c
        rErr := errCode s.params.errCode code, fsm := fsmAfter s (recorded s c), busy := false
        writeScript := ws, readScript := rs
        trace := s.trace ++ ([.write (cmdBytes c) .ok] ++ waits ++ [.read n a]) }

/-- A transport that never returns (R307; 93_implementation_defined.md U9), in the BusWrite of any
operation, in its single BusRead, or in a BusRead of FETCH after `k` refused ones: the operation does
not end, BUSY stays 1, FSM stands where it is inside the operation (R30), what was written before stays,
and no later step moves the block. That an operation is one step, and that the call leaves no event, is
the model's (log 11, log 14). Command words: log 7. -/
def Obligations.HungTransaction : Prop :=
  (∀ (i : Instr) (bytes : List Byte) (s : State) (ws : List (Option WriteAnswer)),
    SendsFrame i bytes s → s.writeScript = none :: ws →
    exec i s =
      .next { s with
        stCache := started i s, fsm := fsmInside i s, busy := true, writeScript := ws }) ∧
  (∀ (i : Instr) (c : Word) (n : ℕ) (waits : List Event) (s : State)
    (ws : List (Option WriteAnswer)) (rs : List (Option ReadAnswer)),
    ReadsOnce i c n waits s → s.writeScript = some .ok :: ws → s.readScript = none :: rs →
    exec i s =
      .next { s with
        stCache := started i s, lastCmd := recorded s c, fsm := fsmInside i s, busy := true
        writeScript := ws, readScript := rs
        trace := s.trace ++ ([.write (cmdBytes c) .ok] ++ waits) }) ∧
  (∀ (k : ℕ) (conv : Bool) (i : Instr) (s : State) (c : Cadence) (r : Resolution)
    (ws : List (Option WriteAnswer)) (rs : List (Option ReadAnswer)) (gs : List Signal),
    k ≤ 5 → i ∈ fetchForms conv → activeSession s = some (c, r) →
    s.writeScript = some .ok :: ws →
    s.readScript = List.replicate k (some .nack) ++ (none :: rs) →
    s.waitScript = List.replicate k .quiet ++ gs →
    exec i s =
      .next { s with
        stCache := started i s
        retry := BitVec.ofNat 3 (5 - k), waitUs := waitUsAfter (tInterval c) k
        fsm := .fetchPending, busy := true
        writeScript := ws, readScript := rs, waitScript := gs
        trace := s.trace ++
          ([.write (cmdBytes (cmdFixed s.params.cmd .fetch)) .ok] ++
            refusedReads (retryWaits (tInterval c) k)) }) ∧
  (∀ s : State, s.busy = true → s.inputs = [] → step s = .next s)

/-- The check of a data block (R55, R56, R133), alone or as the second one of a six-byte frame, the
humidity block: it gives its word exactly when its checksum is the one of its two payload bytes, and by
default the first byte is the more significant one. A frame gives its pair of codes exactly when both
blocks are good (R201). -/
def Obligations.BlockCheckedBeforeUse : Prop :=
  ∀ (p : Params) (d0 d1 k e0 e1 m : Byte) (rest : List Byte) (w v : Word),
    let value : Byte → Byte → ℕ := fun b0 b1 =>
      match p.wordOrder with
      | .msbFirst => b0.toNat * 256 + b1.toNat
      | .lsbFirst => b1.toNat * 256 + b0.toNat
    (blockWord p (d0 :: d1 :: k :: rest) 0 = some w ↔
      crc8 p.crcPoly p.crcSeed d0 d1 = k ∧ w.toNat = value d0 d1) ∧
    (blockWord p (d0 :: d1 :: k :: e0 :: e1 :: m :: rest) 3 = some v ↔
      crc8 p.crcPoly p.crcSeed e0 e1 = m ∧ v.toNat = value e0 e1) ∧
    (decodeSample p [d0, d1, k, e0, e1, m] = some (w, v) ↔
      crc8 p.crcPoly p.crcSeed d0 d1 = k ∧ crc8 p.crcPoly p.crcSeed e0 e1 = m ∧
        w.toNat = value d0 d1 ∧ v.toNat = value e0 e1) ∧
    defaultParams.wordOrder = .msbFirst

/-! ## Rules of the whole machine -/

/-- Every instruction answers with a next state, in every state and whatever the environment does. It
writes no request register (R33), no parameter (R6, kept in State by log 9), and leaves the model's list
of inputs alone (log 1). It ends, with BUSY = 0, where it is a pure-unit operation, and where the
transport answers its write and up to six reads: an end is relative to a transport that answers (R212,
R307; log 14). When it ends, FSM is `quiescent()` (R255). Command words: log 7. -/
def Obligations.EveryOperationEnds : Prop :=
  ∀ (i : Instr) (s : State), ∃ t, exec i s = .next t ∧
    (t.busy = false → t.fsm = quiescent t) ∧
    (opOf i ∈ pureOps → t.busy = false) ∧
    (∀ (a : WriteAnswer) (ws : List (Option WriteAnswer)) (answers : List ReadAnswer)
      (rest : List (Option ReadAnswer)),
      s.writeScript = some a :: ws → answers.length = 6 →
      s.readScript = answers.map some ++ rest → t.busy = false) ∧
    t.req = s.req ∧ t.a0 = s.a0 ∧ t.a1 = s.a1 ∧ t.inputs = s.inputs ∧ t.params = s.params

/-- Every step from a sound state leads to a sound state: FSM agrees with the handle registers (R31), which
are in their invariant (R27), the counters are in range (R29), R_ERR holds 0 or an error's code (R250),
and with exact conversions the physical results are in range and held twice alike (R34). A sound state
has parameters that meet the spec's constraints (R163, R171). Command words: log 7. -/
def Obligations.StepKeepsSound : Prop :=
  ∀ s t : State, Sound s → step s = .next t → Sound t

/-- The reset state is sound, as R39 gives it: no cached status word, no recorded command, Idle, not
busy, R_ERR = 0. (That the physical results agree rests on the model's zeros, log 5; the parameters are
the defaults, log 9.) -/
def Obligations.ResetIsSound : Prop :=
  Sound State.reset ∧ State.reset.stCache = none ∧ State.reset.lastCmd = none ∧
    State.reset.fsm = .idle ∧ State.reset.busy = false ∧ State.reset.rErr = 0#4

/-- In a sound state with exact conversions the physical results are finite and never a negative zero
(R37). -/
def Obligations.SoundFloatsClean : Prop :=
  ∀ s : State, Sound s → s.params.convArith = .exact → CleanFloat s.rTf32 ∧ CleanFloat s.rRhf32

/-- A step that finds BUSY = 0 always answers with a next state, and one that finds BUSY = 1 faults exactly
when an input is waiting (the fault and the list are the model's: log 1, log 12). Nothing is refused. -/
def Obligations.StepStopsOnlyOnOverlap : Prop :=
  ∀ s : State,
    (s.busy = false → ∃ t, step s = .next t) ∧
    (step s = .fault .overlappingRequest ↔ s.busy = true ∧ s.inputs ≠ []) ∧
    (∀ r, step s ≠ .refused r)

/-- An operation that ends with an error writes R_ERR and no other result register (R35); one that hangs
(R307) writes none at all. Command words: log 7. -/
def Obligations.FailureLeavesResults : Prop :=
  ∀ (i : Instr) (s t : State), exec i s = .next t → t.rErr ≠ 0#4 ∨ t.busy = true →
    (t.busy = true → t.rErr = s.rErr) ∧
    t.rTcode = s.rTcode ∧ t.rRhcode = s.rRhcode ∧ t.rTcenti = s.rTcenti ∧
    t.rRhcenti = s.rRhcenti ∧ t.rTf32 = s.rTf32 ∧ t.rRhf32 = s.rRhf32 ∧ t.rWord = s.rWord ∧
    t.rFlags = s.rFlags ∧ t.rCrc = s.rCrc ∧ t.rBool = s.rBool ∧ t.rCmd = s.rCmd

/-- Each result register but R_ERR is written by the operations of R34's table alone.
Command words: log 7. -/
def Obligations.ResultsWrittenOnlyByTheirOperations : Prop :=
  ∀ (i : Instr) (s t : State), exec i s = .next t →
    (opOf i ∉ [Op.singleShot, .fetch, .alertRead, .c2code, .alunpack, .alertWrite] →
      t.rTcode = s.rTcode) ∧
    (opOf i ∉ [Op.singleShot, .fetch, .alertRead, .rh2code, .alunpack, .alertWrite] →
      t.rRhcode = s.rRhcode) ∧
    (opOf i ∉ [Op.code2c, .singleShot, .fetch, .alertRead] →
      t.rTcenti = s.rTcenti ∧ t.rTf32 = s.rTf32) ∧
    (opOf i ∉ [Op.code2rh, .singleShot, .fetch, .alertRead] →
      t.rRhcenti = s.rRhcenti ∧ t.rRhf32 = s.rRhf32) ∧
    (opOf i ∉ [Op.statusRead, .statusFresh, .stdec, .alertRead, .alertWrite, .alpack] ++ predicateOps →
      t.rWord = s.rWord) ∧
    (opOf i ∉ [Op.statusRead, .statusFresh, .stdec] ++ predicateOps → t.rFlags = s.rFlags) ∧
    (opOf i ∉ [Op.crc8, .alertWrite] → t.rCrc = s.rCrc) ∧
    (opOf i ∉ predicateOps → t.rBool = s.rBool) ∧
    (opOf i ∉ [Op.cmdenc] → t.rCmd = s.rCmd)

/-- Which operations write the handle registers and the counters of the engine, and what the successful
ones leave there (R24 to R26, R29, R176). The session descriptor: START_PERIODIC alone. The last
command: under StartBreakOnly START_PERIODIC and BREAK alone, under AllButFetch never FETCH and never a
pure-unit operation. The status cache: the operations of ST_INVALIDATORS and the status reads alone. RETRY
and WAIT_US: FETCH alone. Success: START_PERIODIC leaves its cadence, resolution and opcode; BREAK its
opcode; a status read or a predicate the word it delivers; FETCH the retries left and the wait after
some number of refused reads. Command words: log 7. -/
def Obligations.HandleAndCounterWriters : Prop :=
  ∀ (i : Instr) (s t : State), exec i s = .next t →
    (opOf i ≠ .startPeriodic → t.cadence = s.cadence ∧ t.resolution = s.resolution) ∧
    (s.params.lcPolicy = .startBreakOnly → opOf i ≠ .startPeriodic → opOf i ≠ .brk →
      t.lastCmd = s.lastCmd) ∧
    (opOf i = .fetch ∨ opOf i ∈ pureOps → t.lastCmd = s.lastCmd) ∧
    (opOf i ∉ s.params.stInvalidators → opOf i ∉ [Op.statusRead, .statusFresh] ++ predicateOps →
      t.stCache = s.stCache) ∧
    (opOf i ≠ .fetch → t.retry = s.retry ∧ t.waitUs = s.waitUs) ∧
    (ParamsOk s.params → t.busy = false → t.rErr = 0#4 →
      (opOf i = .startPeriodic → ∃ c r, i ∈ startPeriodicForms c r ∧ t.cadence = cadenceBits c ∧
        t.resolution = resolutionBits r ∧ t.lastCmd = some (cmdPeriodic s.params.cmd c r)) ∧
      (opOf i = .brk → t.lastCmd = some (cmdFixed s.params.cmd .brk)) ∧
      (opOf i ∈ [Op.statusRead, .statusFresh] ++ predicateOps → t.stCache = some t.rWord) ∧
      (opOf i = .fetch → ∃ k c r, k ≤ 5 ∧ activeSession s = some (c, r) ∧
        t.retry = BitVec.ofNat 3 (5 - k) ∧ t.waitUs = waitUsAfter (tInterval c) k))

/-- How a session begins and ends (R209), where the parameters meet the spec's constraints: only a
START_PERIODIC that succeeds makes one active where none was; under StartBreakOnly, only a BREAK that
succeeds ends one, which no other end of any operation does (R31, R206). Command words: log 7. -/
def Obligations.SessionChangesOnlyByStartAndBreak : Prop :=
  ∀ (i : Instr) (s t : State), ParamsOk s.params → exec i s = .next t →
    (sessionActive s = false → sessionActive t = true →
      opOf i = .startPeriodic ∧ t.rErr = 0#4 ∧ t.busy = false) ∧
    (s.params.lcPolicy = .startBreakOnly → sessionActive s = true → sessionActive t = false →
      opOf i = .brk ∧ t.rErr = 0#4 ∧ t.busy = false)

/-- The invalidation points (R176), where no pure-unit operation is one (as R176 has it) and the request
is legal (R73): the operations of ST_INVALIDATORS behave as if nothing had been cached, and hold a cached
word afterwards only where a status read of theirs succeeded; a status read or predicate outside the
set, as STATUS_READ is by default, never drops a cached word; every other operation leaves the cache
as it is. At sets other than the default, and so of STATUS_FRESH, CMD_STATUS_READ and the predicates
outside the set, this is the model's choice (log 21). Command words: log 7, log 8. -/
def Obligations.CacheInvalidatedExactly : Prop :=
  ∀ (i : Instr) (s t : State), ParamsOk s.params → WellFormed i → exec i s = .next t →
    (opOf i = .alertWrite → celsius? s.a0 ≠ none ∧ percent? s.a1 ≠ none) →
    (opOf i ∈ s.params.stInvalidators →
      exec i { s with stCache := none } = .next t ∧
      (t.stCache = none ∨ t.rErr = 0#4 ∧ t.busy = false ∧
        opOf i ∈ [Op.statusRead, .statusFresh] ++ predicateOps ∧ t.stCache = some t.rWord)) ∧
    (opOf i ∉ s.params.stInvalidators →
      (opOf i ∈ [Op.statusRead, .statusFresh] ++ predicateOps →
        ∀ w, s.stCache = some w → t.stCache = some w) ∧
      (opOf i ∉ [Op.statusRead, .statusFresh] ++ predicateOps → t.stCache = s.stCache))

/-- The nine pure-unit operations make no transaction and no wait, and touch no handle register, no
counter and nothing of the environment (R64, R291). -/
def Obligations.PureOperationsStayInside : Prop :=
  ∀ (i : Instr) (s t : State), opOf i ∈ pureOps → exec i s = .next t →
    t.trace = s.trace ∧ t.writeScript = s.writeScript ∧ t.readScript = s.readScript ∧
    t.waitScript = s.waitScript ∧ t.draws = s.draws ∧ t.stCache = s.stCache ∧
    t.lastCmd = s.lastCmd ∧ t.cadence = s.cadence ∧ t.resolution = s.resolution ∧
    t.retry = s.retry ∧ t.waitUs = s.waitUs

/-- Only FETCH can be cancelled (R211, R265): what the canceller does has no influence on any other
operation, whatever the environment answers. Command words: log 7. -/
def Obligations.OnlyFetchSeesCancellation : Prop :=
  ∀ (i : Instr) (s t : State) (gs : List Signal), opOf i ≠ .fetch → exec i s = .next t →
    exec i { s with waitScript := gs } = .next { t with waitScript := gs }

/-- An operation only adds events to the trace, at most one write, six reads and five waits (R212), each
of a form that can cross the boundary (R50, R51, R260, R261), whatever the environment answers: an
answer of another length is turned into `IoErr` before it reaches the block, which is log 3's.
Command words: log 7. -/
def Obligations.OperationsAddBoundedEvents : Prop :=
  ∀ (i : Instr) (s t : State), exec i s = .next t →
    ∃ es, t.trace = s.trace ++ es ∧ writeCount es ≤ 1 ∧ readCount es ≤ 6 ∧ waitCount es ≤ 5 ∧
      ∀ e ∈ es, EventOk e
end

