-- ==== Sys2Proof/Laws/State.lean ====
section
/-! SUPPORT. One lemma per field per named update of the state, so that no proof unfolds an update. -/

namespace Sys2Proof.Machine

/-! ### endWith -/

@[simp] theorem endWith_stCache (c : BitVec 4) (s : State) : (endWith c s).stCache = s.stCache := rfl
@[simp] theorem endWith_lastCmd (c : BitVec 4) (s : State) : (endWith c s).lastCmd = s.lastCmd := rfl
@[simp] theorem endWith_cadence (c : BitVec 4) (s : State) : (endWith c s).cadence = s.cadence := rfl
@[simp] theorem endWith_resolution (c : BitVec 4) (s : State) : (endWith c s).resolution = s.resolution := rfl
@[simp] theorem endWith_busy (c : BitVec 4) (s : State) : (endWith c s).busy = false := rfl
@[simp] theorem endWith_fsm (c : BitVec 4) (s : State) : (endWith c s).fsm = quiescent s := rfl
@[simp] theorem endWith_retry (c : BitVec 4) (s : State) : (endWith c s).retry = s.retry := rfl
@[simp] theorem endWith_waitUs (c : BitVec 4) (s : State) : (endWith c s).waitUs = s.waitUs := rfl
@[simp] theorem endWith_req (c : BitVec 4) (s : State) : (endWith c s).req = s.req := rfl
@[simp] theorem endWith_a0 (c : BitVec 4) (s : State) : (endWith c s).a0 = s.a0 := rfl
@[simp] theorem endWith_a1 (c : BitVec 4) (s : State) : (endWith c s).a1 = s.a1 := rfl
@[simp] theorem endWith_rErr (c : BitVec 4) (s : State) : (endWith c s).rErr = c := rfl
@[simp] theorem endWith_rTcode (c : BitVec 4) (s : State) : (endWith c s).rTcode = s.rTcode := rfl
@[simp] theorem endWith_rRhcode (c : BitVec 4) (s : State) : (endWith c s).rRhcode = s.rRhcode := rfl
@[simp] theorem endWith_rTcenti (c : BitVec 4) (s : State) : (endWith c s).rTcenti = s.rTcenti := rfl
@[simp] theorem endWith_rRhcenti (c : BitVec 4) (s : State) : (endWith c s).rRhcenti = s.rRhcenti := rfl
@[simp] theorem endWith_rTf32 (c : BitVec 4) (s : State) : (endWith c s).rTf32 = s.rTf32 := rfl
@[simp] theorem endWith_rRhf32 (c : BitVec 4) (s : State) : (endWith c s).rRhf32 = s.rRhf32 := rfl
@[simp] theorem endWith_rWord (c : BitVec 4) (s : State) : (endWith c s).rWord = s.rWord := rfl
@[simp] theorem endWith_rFlags (c : BitVec 4) (s : State) : (endWith c s).rFlags = s.rFlags := rfl
@[simp] theorem endWith_rCrc (c : BitVec 4) (s : State) : (endWith c s).rCrc = s.rCrc := rfl
@[simp] theorem endWith_rBool (c : BitVec 4) (s : State) : (endWith c s).rBool = s.rBool := rfl
@[simp] theorem endWith_rCmd (c : BitVec 4) (s : State) : (endWith c s).rCmd = s.rCmd := rfl
@[simp] theorem endWith_params (c : BitVec 4) (s : State) : (endWith c s).params = s.params := rfl
@[simp] theorem endWith_inputs (c : BitVec 4) (s : State) : (endWith c s).inputs = s.inputs := rfl
@[simp] theorem endWith_writeScript (c : BitVec 4) (s : State) : (endWith c s).writeScript = s.writeScript := rfl
@[simp] theorem endWith_readScript (c : BitVec 4) (s : State) : (endWith c s).readScript = s.readScript := rfl
@[simp] theorem endWith_waitScript (c : BitVec 4) (s : State) : (endWith c s).waitScript = s.waitScript := rfl
@[simp] theorem endWith_draws (c : BitVec 4) (s : State) : (endWith c s).draws = s.draws := rfl
@[simp] theorem endWith_trace (c : BitVec 4) (s : State) : (endWith c s).trace = s.trace := rfl

/-! ### raise -/

@[simp] theorem raise_stCache (e : ErrCode) (s : State) : (raise e s).stCache = s.stCache := rfl
@[simp] theorem raise_lastCmd (e : ErrCode) (s : State) : (raise e s).lastCmd = s.lastCmd := rfl
@[simp] theorem raise_cadence (e : ErrCode) (s : State) : (raise e s).cadence = s.cadence := rfl
@[simp] theorem raise_resolution (e : ErrCode) (s : State) : (raise e s).resolution = s.resolution := rfl
@[simp] theorem raise_busy (e : ErrCode) (s : State) : (raise e s).busy = false := rfl
@[simp] theorem raise_fsm (e : ErrCode) (s : State) : (raise e s).fsm = quiescent s := rfl
@[simp] theorem raise_retry (e : ErrCode) (s : State) : (raise e s).retry = s.retry := rfl
@[simp] theorem raise_waitUs (e : ErrCode) (s : State) : (raise e s).waitUs = s.waitUs := rfl
@[simp] theorem raise_req (e : ErrCode) (s : State) : (raise e s).req = s.req := rfl
@[simp] theorem raise_a0 (e : ErrCode) (s : State) : (raise e s).a0 = s.a0 := rfl
@[simp] theorem raise_a1 (e : ErrCode) (s : State) : (raise e s).a1 = s.a1 := rfl
@[simp] theorem raise_rErr (e : ErrCode) (s : State) : (raise e s).rErr = errCode s.params.errCode e := rfl
@[simp] theorem raise_rTcode (e : ErrCode) (s : State) : (raise e s).rTcode = s.rTcode := rfl
@[simp] theorem raise_rRhcode (e : ErrCode) (s : State) : (raise e s).rRhcode = s.rRhcode := rfl
@[simp] theorem raise_rTcenti (e : ErrCode) (s : State) : (raise e s).rTcenti = s.rTcenti := rfl
@[simp] theorem raise_rRhcenti (e : ErrCode) (s : State) : (raise e s).rRhcenti = s.rRhcenti := rfl
@[simp] theorem raise_rTf32 (e : ErrCode) (s : State) : (raise e s).rTf32 = s.rTf32 := rfl
@[simp] theorem raise_rRhf32 (e : ErrCode) (s : State) : (raise e s).rRhf32 = s.rRhf32 := rfl
@[simp] theorem raise_rWord (e : ErrCode) (s : State) : (raise e s).rWord = s.rWord := rfl
@[simp] theorem raise_rFlags (e : ErrCode) (s : State) : (raise e s).rFlags = s.rFlags := rfl
@[simp] theorem raise_rCrc (e : ErrCode) (s : State) : (raise e s).rCrc = s.rCrc := rfl
@[simp] theorem raise_rBool (e : ErrCode) (s : State) : (raise e s).rBool = s.rBool := rfl
@[simp] theorem raise_rCmd (e : ErrCode) (s : State) : (raise e s).rCmd = s.rCmd := rfl
@[simp] theorem raise_params (e : ErrCode) (s : State) : (raise e s).params = s.params := rfl
@[simp] theorem raise_inputs (e : ErrCode) (s : State) : (raise e s).inputs = s.inputs := rfl
@[simp] theorem raise_writeScript (e : ErrCode) (s : State) : (raise e s).writeScript = s.writeScript := rfl
@[simp] theorem raise_readScript (e : ErrCode) (s : State) : (raise e s).readScript = s.readScript := rfl
@[simp] theorem raise_waitScript (e : ErrCode) (s : State) : (raise e s).waitScript = s.waitScript := rfl
@[simp] theorem raise_draws (e : ErrCode) (s : State) : (raise e s).draws = s.draws := rfl
@[simp] theorem raise_trace (e : ErrCode) (s : State) : (raise e s).trace = s.trace := rfl

/-! ### done -/

@[simp] theorem done_stCache (s : State) : (done s).stCache = s.stCache := rfl
@[simp] theorem done_lastCmd (s : State) : (done s).lastCmd = s.lastCmd := rfl
@[simp] theorem done_cadence (s : State) : (done s).cadence = s.cadence := rfl
@[simp] theorem done_resolution (s : State) : (done s).resolution = s.resolution := rfl
@[simp] theorem done_busy (s : State) : (done s).busy = false := rfl
@[simp] theorem done_fsm (s : State) : (done s).fsm = quiescent s := rfl
@[simp] theorem done_retry (s : State) : (done s).retry = s.retry := rfl
@[simp] theorem done_waitUs (s : State) : (done s).waitUs = s.waitUs := rfl
@[simp] theorem done_req (s : State) : (done s).req = s.req := rfl
@[simp] theorem done_a0 (s : State) : (done s).a0 = s.a0 := rfl
@[simp] theorem done_a1 (s : State) : (done s).a1 = s.a1 := rfl
@[simp] theorem done_rErr (s : State) : (done s).rErr = 0#4 := rfl
@[simp] theorem done_rTcode (s : State) : (done s).rTcode = s.rTcode := rfl
@[simp] theorem done_rRhcode (s : State) : (done s).rRhcode = s.rRhcode := rfl
@[simp] theorem done_rTcenti (s : State) : (done s).rTcenti = s.rTcenti := rfl
@[simp] theorem done_rRhcenti (s : State) : (done s).rRhcenti = s.rRhcenti := rfl
@[simp] theorem done_rTf32 (s : State) : (done s).rTf32 = s.rTf32 := rfl
@[simp] theorem done_rRhf32 (s : State) : (done s).rRhf32 = s.rRhf32 := rfl
@[simp] theorem done_rWord (s : State) : (done s).rWord = s.rWord := rfl
@[simp] theorem done_rFlags (s : State) : (done s).rFlags = s.rFlags := rfl
@[simp] theorem done_rCrc (s : State) : (done s).rCrc = s.rCrc := rfl
@[simp] theorem done_rBool (s : State) : (done s).rBool = s.rBool := rfl
@[simp] theorem done_rCmd (s : State) : (done s).rCmd = s.rCmd := rfl
@[simp] theorem done_params (s : State) : (done s).params = s.params := rfl
@[simp] theorem done_inputs (s : State) : (done s).inputs = s.inputs := rfl
@[simp] theorem done_writeScript (s : State) : (done s).writeScript = s.writeScript := rfl
@[simp] theorem done_readScript (s : State) : (done s).readScript = s.readScript := rfl
@[simp] theorem done_waitScript (s : State) : (done s).waitScript = s.waitScript := rfl
@[simp] theorem done_draws (s : State) : (done s).draws = s.draws := rfl
@[simp] theorem done_trace (s : State) : (done s).trace = s.trace := rfl

/-! ### hang -/

@[simp] theorem hang_stCache (s : State) : (hang s).stCache = s.stCache := rfl
@[simp] theorem hang_lastCmd (s : State) : (hang s).lastCmd = s.lastCmd := rfl
@[simp] theorem hang_cadence (s : State) : (hang s).cadence = s.cadence := rfl
@[simp] theorem hang_resolution (s : State) : (hang s).resolution = s.resolution := rfl
@[simp] theorem hang_busy (s : State) : (hang s).busy = true := rfl
@[simp] theorem hang_fsm (s : State) : (hang s).fsm = s.fsm := rfl
@[simp] theorem hang_retry (s : State) : (hang s).retry = s.retry := rfl
@[simp] theorem hang_waitUs (s : State) : (hang s).waitUs = s.waitUs := rfl
@[simp] theorem hang_req (s : State) : (hang s).req = s.req := rfl
@[simp] theorem hang_a0 (s : State) : (hang s).a0 = s.a0 := rfl
@[simp] theorem hang_a1 (s : State) : (hang s).a1 = s.a1 := rfl
@[simp] theorem hang_rErr (s : State) : (hang s).rErr = s.rErr := rfl
@[simp] theorem hang_rTcode (s : State) : (hang s).rTcode = s.rTcode := rfl
@[simp] theorem hang_rRhcode (s : State) : (hang s).rRhcode = s.rRhcode := rfl
@[simp] theorem hang_rTcenti (s : State) : (hang s).rTcenti = s.rTcenti := rfl
@[simp] theorem hang_rRhcenti (s : State) : (hang s).rRhcenti = s.rRhcenti := rfl
@[simp] theorem hang_rTf32 (s : State) : (hang s).rTf32 = s.rTf32 := rfl
@[simp] theorem hang_rRhf32 (s : State) : (hang s).rRhf32 = s.rRhf32 := rfl
@[simp] theorem hang_rWord (s : State) : (hang s).rWord = s.rWord := rfl
@[simp] theorem hang_rFlags (s : State) : (hang s).rFlags = s.rFlags := rfl
@[simp] theorem hang_rCrc (s : State) : (hang s).rCrc = s.rCrc := rfl
@[simp] theorem hang_rBool (s : State) : (hang s).rBool = s.rBool := rfl
@[simp] theorem hang_rCmd (s : State) : (hang s).rCmd = s.rCmd := rfl
@[simp] theorem hang_params (s : State) : (hang s).params = s.params := rfl
@[simp] theorem hang_inputs (s : State) : (hang s).inputs = s.inputs := rfl
@[simp] theorem hang_writeScript (s : State) : (hang s).writeScript = s.writeScript := rfl
@[simp] theorem hang_readScript (s : State) : (hang s).readScript = s.readScript := rfl
@[simp] theorem hang_waitScript (s : State) : (hang s).waitScript = s.waitScript := rfl
@[simp] theorem hang_draws (s : State) : (hang s).draws = s.draws := rfl
@[simp] theorem hang_trace (s : State) : (hang s).trace = s.trace := rfl

/-! ### logEvent -/

@[simp] theorem logEvent_stCache (e : Event) (s : State) : (logEvent e s).stCache = s.stCache := rfl
@[simp] theorem logEvent_lastCmd (e : Event) (s : State) : (logEvent e s).lastCmd = s.lastCmd := rfl
@[simp] theorem logEvent_cadence (e : Event) (s : State) : (logEvent e s).cadence = s.cadence := rfl
@[simp] theorem logEvent_resolution (e : Event) (s : State) : (logEvent e s).resolution = s.resolution := rfl
@[simp] theorem logEvent_busy (e : Event) (s : State) : (logEvent e s).busy = s.busy := rfl
@[simp] theorem logEvent_fsm (e : Event) (s : State) : (logEvent e s).fsm = s.fsm := rfl
@[simp] theorem logEvent_retry (e : Event) (s : State) : (logEvent e s).retry = s.retry := rfl
@[simp] theorem logEvent_waitUs (e : Event) (s : State) : (logEvent e s).waitUs = s.waitUs := rfl
@[simp] theorem logEvent_req (e : Event) (s : State) : (logEvent e s).req = s.req := rfl
@[simp] theorem logEvent_a0 (e : Event) (s : State) : (logEvent e s).a0 = s.a0 := rfl
@[simp] theorem logEvent_a1 (e : Event) (s : State) : (logEvent e s).a1 = s.a1 := rfl
@[simp] theorem logEvent_rErr (e : Event) (s : State) : (logEvent e s).rErr = s.rErr := rfl
@[simp] theorem logEvent_rTcode (e : Event) (s : State) : (logEvent e s).rTcode = s.rTcode := rfl
@[simp] theorem logEvent_rRhcode (e : Event) (s : State) : (logEvent e s).rRhcode = s.rRhcode := rfl
@[simp] theorem logEvent_rTcenti (e : Event) (s : State) : (logEvent e s).rTcenti = s.rTcenti := rfl
@[simp] theorem logEvent_rRhcenti (e : Event) (s : State) : (logEvent e s).rRhcenti = s.rRhcenti := rfl
@[simp] theorem logEvent_rTf32 (e : Event) (s : State) : (logEvent e s).rTf32 = s.rTf32 := rfl
@[simp] theorem logEvent_rRhf32 (e : Event) (s : State) : (logEvent e s).rRhf32 = s.rRhf32 := rfl
@[simp] theorem logEvent_rWord (e : Event) (s : State) : (logEvent e s).rWord = s.rWord := rfl
@[simp] theorem logEvent_rFlags (e : Event) (s : State) : (logEvent e s).rFlags = s.rFlags := rfl
@[simp] theorem logEvent_rCrc (e : Event) (s : State) : (logEvent e s).rCrc = s.rCrc := rfl
@[simp] theorem logEvent_rBool (e : Event) (s : State) : (logEvent e s).rBool = s.rBool := rfl
@[simp] theorem logEvent_rCmd (e : Event) (s : State) : (logEvent e s).rCmd = s.rCmd := rfl
@[simp] theorem logEvent_params (e : Event) (s : State) : (logEvent e s).params = s.params := rfl
@[simp] theorem logEvent_inputs (e : Event) (s : State) : (logEvent e s).inputs = s.inputs := rfl
@[simp] theorem logEvent_writeScript (e : Event) (s : State) : (logEvent e s).writeScript = s.writeScript := rfl
@[simp] theorem logEvent_readScript (e : Event) (s : State) : (logEvent e s).readScript = s.readScript := rfl
@[simp] theorem logEvent_waitScript (e : Event) (s : State) : (logEvent e s).waitScript = s.waitScript := rfl
@[simp] theorem logEvent_draws (e : Event) (s : State) : (logEvent e s).draws = s.draws := rfl
@[simp] theorem logEvent_trace (e : Event) (s : State) : (logEvent e s).trace = s.trace ++ [e] := rfl

/-! ### wait -/

@[simp] theorem wait_stCache (us : Nat) (s : State) : (wait us s).stCache = s.stCache := rfl
@[simp] theorem wait_lastCmd (us : Nat) (s : State) : (wait us s).lastCmd = s.lastCmd := rfl
@[simp] theorem wait_cadence (us : Nat) (s : State) : (wait us s).cadence = s.cadence := rfl
@[simp] theorem wait_resolution (us : Nat) (s : State) : (wait us s).resolution = s.resolution := rfl
@[simp] theorem wait_busy (us : Nat) (s : State) : (wait us s).busy = s.busy := rfl
@[simp] theorem wait_fsm (us : Nat) (s : State) : (wait us s).fsm = s.fsm := rfl
@[simp] theorem wait_retry (us : Nat) (s : State) : (wait us s).retry = s.retry := rfl
@[simp] theorem wait_waitUs (us : Nat) (s : State) : (wait us s).waitUs = s.waitUs := rfl
@[simp] theorem wait_req (us : Nat) (s : State) : (wait us s).req = s.req := rfl
@[simp] theorem wait_a0 (us : Nat) (s : State) : (wait us s).a0 = s.a0 := rfl
@[simp] theorem wait_a1 (us : Nat) (s : State) : (wait us s).a1 = s.a1 := rfl
@[simp] theorem wait_rErr (us : Nat) (s : State) : (wait us s).rErr = s.rErr := rfl
@[simp] theorem wait_rTcode (us : Nat) (s : State) : (wait us s).rTcode = s.rTcode := rfl
@[simp] theorem wait_rRhcode (us : Nat) (s : State) : (wait us s).rRhcode = s.rRhcode := rfl
@[simp] theorem wait_rTcenti (us : Nat) (s : State) : (wait us s).rTcenti = s.rTcenti := rfl
@[simp] theorem wait_rRhcenti (us : Nat) (s : State) : (wait us s).rRhcenti = s.rRhcenti := rfl
@[simp] theorem wait_rTf32 (us : Nat) (s : State) : (wait us s).rTf32 = s.rTf32 := rfl
@[simp] theorem wait_rRhf32 (us : Nat) (s : State) : (wait us s).rRhf32 = s.rRhf32 := rfl
@[simp] theorem wait_rWord (us : Nat) (s : State) : (wait us s).rWord = s.rWord := rfl
@[simp] theorem wait_rFlags (us : Nat) (s : State) : (wait us s).rFlags = s.rFlags := rfl
@[simp] theorem wait_rCrc (us : Nat) (s : State) : (wait us s).rCrc = s.rCrc := rfl
@[simp] theorem wait_rBool (us : Nat) (s : State) : (wait us s).rBool = s.rBool := rfl
@[simp] theorem wait_rCmd (us : Nat) (s : State) : (wait us s).rCmd = s.rCmd := rfl
@[simp] theorem wait_params (us : Nat) (s : State) : (wait us s).params = s.params := rfl
@[simp] theorem wait_inputs (us : Nat) (s : State) : (wait us s).inputs = s.inputs := rfl
@[simp] theorem wait_writeScript (us : Nat) (s : State) : (wait us s).writeScript = s.writeScript := rfl
@[simp] theorem wait_readScript (us : Nat) (s : State) : (wait us s).readScript = s.readScript := rfl
@[simp] theorem wait_waitScript (us : Nat) (s : State) : (wait us s).waitScript = s.waitScript := rfl
@[simp] theorem wait_draws (us : Nat) (s : State) : (wait us s).draws = s.draws := rfl
@[simp] theorem wait_trace (us : Nat) (s : State) : (wait us s).trace = s.trace ++ [.waited us us .elapsed] := rfl

/-! ### invalidate -/

@[simp] theorem invalidate_stCache (s : State) : (invalidate s).stCache = none := rfl
@[simp] theorem invalidate_lastCmd (s : State) : (invalidate s).lastCmd = s.lastCmd := rfl
@[simp] theorem invalidate_cadence (s : State) : (invalidate s).cadence = s.cadence := rfl
@[simp] theorem invalidate_resolution (s : State) : (invalidate s).resolution = s.resolution := rfl
@[simp] theorem invalidate_busy (s : State) : (invalidate s).busy = s.busy := rfl
@[simp] theorem invalidate_fsm (s : State) : (invalidate s).fsm = s.fsm := rfl
@[simp] theorem invalidate_retry (s : State) : (invalidate s).retry = s.retry := rfl
@[simp] theorem invalidate_waitUs (s : State) : (invalidate s).waitUs = s.waitUs := rfl
@[simp] theorem invalidate_req (s : State) : (invalidate s).req = s.req := rfl
@[simp] theorem invalidate_a0 (s : State) : (invalidate s).a0 = s.a0 := rfl
@[simp] theorem invalidate_a1 (s : State) : (invalidate s).a1 = s.a1 := rfl
@[simp] theorem invalidate_rErr (s : State) : (invalidate s).rErr = s.rErr := rfl
@[simp] theorem invalidate_rTcode (s : State) : (invalidate s).rTcode = s.rTcode := rfl
@[simp] theorem invalidate_rRhcode (s : State) : (invalidate s).rRhcode = s.rRhcode := rfl
@[simp] theorem invalidate_rTcenti (s : State) : (invalidate s).rTcenti = s.rTcenti := rfl
@[simp] theorem invalidate_rRhcenti (s : State) : (invalidate s).rRhcenti = s.rRhcenti := rfl
@[simp] theorem invalidate_rTf32 (s : State) : (invalidate s).rTf32 = s.rTf32 := rfl
@[simp] theorem invalidate_rRhf32 (s : State) : (invalidate s).rRhf32 = s.rRhf32 := rfl
@[simp] theorem invalidate_rWord (s : State) : (invalidate s).rWord = s.rWord := rfl
@[simp] theorem invalidate_rFlags (s : State) : (invalidate s).rFlags = s.rFlags := rfl
@[simp] theorem invalidate_rCrc (s : State) : (invalidate s).rCrc = s.rCrc := rfl
@[simp] theorem invalidate_rBool (s : State) : (invalidate s).rBool = s.rBool := rfl
@[simp] theorem invalidate_rCmd (s : State) : (invalidate s).rCmd = s.rCmd := rfl
@[simp] theorem invalidate_params (s : State) : (invalidate s).params = s.params := rfl
@[simp] theorem invalidate_inputs (s : State) : (invalidate s).inputs = s.inputs := rfl
@[simp] theorem invalidate_writeScript (s : State) : (invalidate s).writeScript = s.writeScript := rfl
@[simp] theorem invalidate_readScript (s : State) : (invalidate s).readScript = s.readScript := rfl
@[simp] theorem invalidate_waitScript (s : State) : (invalidate s).waitScript = s.waitScript := rfl
@[simp] theorem invalidate_draws (s : State) : (invalidate s).draws = s.draws := rfl
@[simp] theorem invalidate_trace (s : State) : (invalidate s).trace = s.trace := rfl

/-! ### record -/

@[simp] theorem record_stCache (c : Word) (s : State) : (record c s).stCache = s.stCache := rfl
@[simp] theorem record_lastCmd (c : Word) (s : State) : (record c s).lastCmd = some c := rfl
@[simp] theorem record_cadence (c : Word) (s : State) : (record c s).cadence = s.cadence := rfl
@[simp] theorem record_resolution (c : Word) (s : State) : (record c s).resolution = s.resolution := rfl
@[simp] theorem record_busy (c : Word) (s : State) : (record c s).busy = s.busy := rfl
@[simp] theorem record_fsm (c : Word) (s : State) : (record c s).fsm = s.fsm := rfl
@[simp] theorem record_retry (c : Word) (s : State) : (record c s).retry = s.retry := rfl
@[simp] theorem record_waitUs (c : Word) (s : State) : (record c s).waitUs = s.waitUs := rfl
@[simp] theorem record_req (c : Word) (s : State) : (record c s).req = s.req := rfl
@[simp] theorem record_a0 (c : Word) (s : State) : (record c s).a0 = s.a0 := rfl
@[simp] theorem record_a1 (c : Word) (s : State) : (record c s).a1 = s.a1 := rfl
@[simp] theorem record_rErr (c : Word) (s : State) : (record c s).rErr = s.rErr := rfl
@[simp] theorem record_rTcode (c : Word) (s : State) : (record c s).rTcode = s.rTcode := rfl
@[simp] theorem record_rRhcode (c : Word) (s : State) : (record c s).rRhcode = s.rRhcode := rfl
@[simp] theorem record_rTcenti (c : Word) (s : State) : (record c s).rTcenti = s.rTcenti := rfl
@[simp] theorem record_rRhcenti (c : Word) (s : State) : (record c s).rRhcenti = s.rRhcenti := rfl
@[simp] theorem record_rTf32 (c : Word) (s : State) : (record c s).rTf32 = s.rTf32 := rfl
@[simp] theorem record_rRhf32 (c : Word) (s : State) : (record c s).rRhf32 = s.rRhf32 := rfl
@[simp] theorem record_rWord (c : Word) (s : State) : (record c s).rWord = s.rWord := rfl
@[simp] theorem record_rFlags (c : Word) (s : State) : (record c s).rFlags = s.rFlags := rfl
@[simp] theorem record_rCrc (c : Word) (s : State) : (record c s).rCrc = s.rCrc := rfl
@[simp] theorem record_rBool (c : Word) (s : State) : (record c s).rBool = s.rBool := rfl
@[simp] theorem record_rCmd (c : Word) (s : State) : (record c s).rCmd = s.rCmd := rfl
@[simp] theorem record_params (c : Word) (s : State) : (record c s).params = s.params := rfl
@[simp] theorem record_inputs (c : Word) (s : State) : (record c s).inputs = s.inputs := rfl
@[simp] theorem record_writeScript (c : Word) (s : State) : (record c s).writeScript = s.writeScript := rfl
@[simp] theorem record_readScript (c : Word) (s : State) : (record c s).readScript = s.readScript := rfl
@[simp] theorem record_waitScript (c : Word) (s : State) : (record c s).waitScript = s.waitScript := rfl
@[simp] theorem record_draws (c : Word) (s : State) : (record c s).draws = s.draws := rfl
@[simp] theorem record_trace (c : Word) (s : State) : (record c s).trace = s.trace := rfl

/-! ### putCelsius -/

@[simp] theorem putCelsius_stCache (code : Word) (s : State) : (putCelsius code s).stCache = s.stCache := rfl
@[simp] theorem putCelsius_lastCmd (code : Word) (s : State) : (putCelsius code s).lastCmd = s.lastCmd := rfl
@[simp] theorem putCelsius_cadence (code : Word) (s : State) : (putCelsius code s).cadence = s.cadence := rfl
@[simp] theorem putCelsius_resolution (code : Word) (s : State) : (putCelsius code s).resolution = s.resolution := rfl
@[simp] theorem putCelsius_busy (code : Word) (s : State) : (putCelsius code s).busy = s.busy := rfl
@[simp] theorem putCelsius_fsm (code : Word) (s : State) : (putCelsius code s).fsm = s.fsm := rfl
@[simp] theorem putCelsius_retry (code : Word) (s : State) : (putCelsius code s).retry = s.retry := rfl
@[simp] theorem putCelsius_waitUs (code : Word) (s : State) : (putCelsius code s).waitUs = s.waitUs := rfl
@[simp] theorem putCelsius_req (code : Word) (s : State) : (putCelsius code s).req = s.req := rfl
@[simp] theorem putCelsius_a0 (code : Word) (s : State) : (putCelsius code s).a0 = s.a0 := rfl
@[simp] theorem putCelsius_a1 (code : Word) (s : State) : (putCelsius code s).a1 = s.a1 := rfl
@[simp] theorem putCelsius_rErr (code : Word) (s : State) : (putCelsius code s).rErr = s.rErr := rfl
@[simp] theorem putCelsius_rTcode (code : Word) (s : State) : (putCelsius code s).rTcode = s.rTcode := rfl
@[simp] theorem putCelsius_rRhcode (code : Word) (s : State) : (putCelsius code s).rRhcode = s.rRhcode := rfl
@[simp] theorem putCelsius_rTcenti (code : Word) (s : State) : (putCelsius code s).rTcenti = BitVec.ofInt 16 (tCenti s.params.convArith code) := rfl
@[simp] theorem putCelsius_rRhcenti (code : Word) (s : State) : (putCelsius code s).rRhcenti = s.rRhcenti := rfl
@[simp] theorem putCelsius_rTf32 (code : Word) (s : State) : (putCelsius code s).rTf32 = b32Centi (tCenti s.params.convArith code) := rfl
@[simp] theorem putCelsius_rRhf32 (code : Word) (s : State) : (putCelsius code s).rRhf32 = s.rRhf32 := rfl
@[simp] theorem putCelsius_rWord (code : Word) (s : State) : (putCelsius code s).rWord = s.rWord := rfl
@[simp] theorem putCelsius_rFlags (code : Word) (s : State) : (putCelsius code s).rFlags = s.rFlags := rfl
@[simp] theorem putCelsius_rCrc (code : Word) (s : State) : (putCelsius code s).rCrc = s.rCrc := rfl
@[simp] theorem putCelsius_rBool (code : Word) (s : State) : (putCelsius code s).rBool = s.rBool := rfl
@[simp] theorem putCelsius_rCmd (code : Word) (s : State) : (putCelsius code s).rCmd = s.rCmd := rfl
@[simp] theorem putCelsius_params (code : Word) (s : State) : (putCelsius code s).params = s.params := rfl
@[simp] theorem putCelsius_inputs (code : Word) (s : State) : (putCelsius code s).inputs = s.inputs := rfl
@[simp] theorem putCelsius_writeScript (code : Word) (s : State) : (putCelsius code s).writeScript = s.writeScript := rfl
@[simp] theorem putCelsius_readScript (code : Word) (s : State) : (putCelsius code s).readScript = s.readScript := rfl
@[simp] theorem putCelsius_waitScript (code : Word) (s : State) : (putCelsius code s).waitScript = s.waitScript := rfl
@[simp] theorem putCelsius_draws (code : Word) (s : State) : (putCelsius code s).draws = s.draws := rfl
@[simp] theorem putCelsius_trace (code : Word) (s : State) : (putCelsius code s).trace = s.trace := rfl

/-! ### putPercent -/

@[simp] theorem putPercent_stCache (code : Word) (s : State) : (putPercent code s).stCache = s.stCache := rfl
@[simp] theorem putPercent_lastCmd (code : Word) (s : State) : (putPercent code s).lastCmd = s.lastCmd := rfl
@[simp] theorem putPercent_cadence (code : Word) (s : State) : (putPercent code s).cadence = s.cadence := rfl
@[simp] theorem putPercent_resolution (code : Word) (s : State) : (putPercent code s).resolution = s.resolution := rfl
@[simp] theorem putPercent_busy (code : Word) (s : State) : (putPercent code s).busy = s.busy := rfl
@[simp] theorem putPercent_fsm (code : Word) (s : State) : (putPercent code s).fsm = s.fsm := rfl
@[simp] theorem putPercent_retry (code : Word) (s : State) : (putPercent code s).retry = s.retry := rfl
@[simp] theorem putPercent_waitUs (code : Word) (s : State) : (putPercent code s).waitUs = s.waitUs := rfl
@[simp] theorem putPercent_req (code : Word) (s : State) : (putPercent code s).req = s.req := rfl
@[simp] theorem putPercent_a0 (code : Word) (s : State) : (putPercent code s).a0 = s.a0 := rfl
@[simp] theorem putPercent_a1 (code : Word) (s : State) : (putPercent code s).a1 = s.a1 := rfl
@[simp] theorem putPercent_rErr (code : Word) (s : State) : (putPercent code s).rErr = s.rErr := rfl
@[simp] theorem putPercent_rTcode (code : Word) (s : State) : (putPercent code s).rTcode = s.rTcode := rfl
@[simp] theorem putPercent_rRhcode (code : Word) (s : State) : (putPercent code s).rRhcode = s.rRhcode := rfl
@[simp] theorem putPercent_rTcenti (code : Word) (s : State) : (putPercent code s).rTcenti = s.rTcenti := rfl
@[simp] theorem putPercent_rRhcenti (code : Word) (s : State) : (putPercent code s).rRhcenti = BitVec.ofInt 16 (rhCenti s.params.convArith code) := rfl
@[simp] theorem putPercent_rTf32 (code : Word) (s : State) : (putPercent code s).rTf32 = s.rTf32 := rfl
@[simp] theorem putPercent_rRhf32 (code : Word) (s : State) : (putPercent code s).rRhf32 = b32Centi (rhCenti s.params.convArith code) := rfl
@[simp] theorem putPercent_rWord (code : Word) (s : State) : (putPercent code s).rWord = s.rWord := rfl
@[simp] theorem putPercent_rFlags (code : Word) (s : State) : (putPercent code s).rFlags = s.rFlags := rfl
@[simp] theorem putPercent_rCrc (code : Word) (s : State) : (putPercent code s).rCrc = s.rCrc := rfl
@[simp] theorem putPercent_rBool (code : Word) (s : State) : (putPercent code s).rBool = s.rBool := rfl
@[simp] theorem putPercent_rCmd (code : Word) (s : State) : (putPercent code s).rCmd = s.rCmd := rfl
@[simp] theorem putPercent_params (code : Word) (s : State) : (putPercent code s).params = s.params := rfl
@[simp] theorem putPercent_inputs (code : Word) (s : State) : (putPercent code s).inputs = s.inputs := rfl
@[simp] theorem putPercent_writeScript (code : Word) (s : State) : (putPercent code s).writeScript = s.writeScript := rfl
@[simp] theorem putPercent_readScript (code : Word) (s : State) : (putPercent code s).readScript = s.readScript := rfl
@[simp] theorem putPercent_waitScript (code : Word) (s : State) : (putPercent code s).waitScript = s.waitScript := rfl
@[simp] theorem putPercent_draws (code : Word) (s : State) : (putPercent code s).draws = s.draws := rfl
@[simp] theorem putPercent_trace (code : Word) (s : State) : (putPercent code s).trace = s.trace := rfl

/-! ### putStatus -/

@[simp] theorem putStatus_stCache (w : Word) (s : State) : (putStatus w s).stCache = s.stCache := rfl
@[simp] theorem putStatus_lastCmd (w : Word) (s : State) : (putStatus w s).lastCmd = s.lastCmd := rfl
@[simp] theorem putStatus_cadence (w : Word) (s : State) : (putStatus w s).cadence = s.cadence := rfl
@[simp] theorem putStatus_resolution (w : Word) (s : State) : (putStatus w s).resolution = s.resolution := rfl
@[simp] theorem putStatus_busy (w : Word) (s : State) : (putStatus w s).busy = s.busy := rfl
@[simp] theorem putStatus_fsm (w : Word) (s : State) : (putStatus w s).fsm = s.fsm := rfl
@[simp] theorem putStatus_retry (w : Word) (s : State) : (putStatus w s).retry = s.retry := rfl
@[simp] theorem putStatus_waitUs (w : Word) (s : State) : (putStatus w s).waitUs = s.waitUs := rfl
@[simp] theorem putStatus_req (w : Word) (s : State) : (putStatus w s).req = s.req := rfl
@[simp] theorem putStatus_a0 (w : Word) (s : State) : (putStatus w s).a0 = s.a0 := rfl
@[simp] theorem putStatus_a1 (w : Word) (s : State) : (putStatus w s).a1 = s.a1 := rfl
@[simp] theorem putStatus_rErr (w : Word) (s : State) : (putStatus w s).rErr = s.rErr := rfl
@[simp] theorem putStatus_rTcode (w : Word) (s : State) : (putStatus w s).rTcode = s.rTcode := rfl
@[simp] theorem putStatus_rRhcode (w : Word) (s : State) : (putStatus w s).rRhcode = s.rRhcode := rfl
@[simp] theorem putStatus_rTcenti (w : Word) (s : State) : (putStatus w s).rTcenti = s.rTcenti := rfl
@[simp] theorem putStatus_rRhcenti (w : Word) (s : State) : (putStatus w s).rRhcenti = s.rRhcenti := rfl
@[simp] theorem putStatus_rTf32 (w : Word) (s : State) : (putStatus w s).rTf32 = s.rTf32 := rfl
@[simp] theorem putStatus_rRhf32 (w : Word) (s : State) : (putStatus w s).rRhf32 = s.rRhf32 := rfl
@[simp] theorem putStatus_rWord (w : Word) (s : State) : (putStatus w s).rWord = w := rfl
@[simp] theorem putStatus_rFlags (w : Word) (s : State) : (putStatus w s).rFlags = stDecode s.params.statusBit w := rfl
@[simp] theorem putStatus_rCrc (w : Word) (s : State) : (putStatus w s).rCrc = s.rCrc := rfl
@[simp] theorem putStatus_rBool (w : Word) (s : State) : (putStatus w s).rBool = s.rBool := rfl
@[simp] theorem putStatus_rCmd (w : Word) (s : State) : (putStatus w s).rCmd = s.rCmd := rfl
@[simp] theorem putStatus_params (w : Word) (s : State) : (putStatus w s).params = s.params := rfl
@[simp] theorem putStatus_inputs (w : Word) (s : State) : (putStatus w s).inputs = s.inputs := rfl
@[simp] theorem putStatus_writeScript (w : Word) (s : State) : (putStatus w s).writeScript = s.writeScript := rfl
@[simp] theorem putStatus_readScript (w : Word) (s : State) : (putStatus w s).readScript = s.readScript := rfl
@[simp] theorem putStatus_waitScript (w : Word) (s : State) : (putStatus w s).waitScript = s.waitScript := rfl
@[simp] theorem putStatus_draws (w : Word) (s : State) : (putStatus w s).draws = s.draws := rfl
@[simp] theorem putStatus_trace (w : Word) (s : State) : (putStatus w s).trace = s.trace := rfl

/-! ### putAlertCodes -/

@[simp] theorem putAlertCodes_stCache (w : Word) (s : State) : (putAlertCodes w s).stCache = s.stCache := rfl
@[simp] theorem putAlertCodes_lastCmd (w : Word) (s : State) : (putAlertCodes w s).lastCmd = s.lastCmd := rfl
@[simp] theorem putAlertCodes_cadence (w : Word) (s : State) : (putAlertCodes w s).cadence = s.cadence := rfl
@[simp] theorem putAlertCodes_resolution (w : Word) (s : State) : (putAlertCodes w s).resolution = s.resolution := rfl
@[simp] theorem putAlertCodes_busy (w : Word) (s : State) : (putAlertCodes w s).busy = s.busy := rfl
@[simp] theorem putAlertCodes_fsm (w : Word) (s : State) : (putAlertCodes w s).fsm = s.fsm := rfl
@[simp] theorem putAlertCodes_retry (w : Word) (s : State) : (putAlertCodes w s).retry = s.retry := rfl
@[simp] theorem putAlertCodes_waitUs (w : Word) (s : State) : (putAlertCodes w s).waitUs = s.waitUs := rfl
@[simp] theorem putAlertCodes_req (w : Word) (s : State) : (putAlertCodes w s).req = s.req := rfl
@[simp] theorem putAlertCodes_a0 (w : Word) (s : State) : (putAlertCodes w s).a0 = s.a0 := rfl
@[simp] theorem putAlertCodes_a1 (w : Word) (s : State) : (putAlertCodes w s).a1 = s.a1 := rfl
@[simp] theorem putAlertCodes_rErr (w : Word) (s : State) : (putAlertCodes w s).rErr = s.rErr := rfl
@[simp] theorem putAlertCodes_rTcode (w : Word) (s : State) : (putAlertCodes w s).rTcode = alertTcode w := rfl
@[simp] theorem putAlertCodes_rRhcode (w : Word) (s : State) : (putAlertCodes w s).rRhcode = alertRhcode w := rfl
@[simp] theorem putAlertCodes_rTcenti (w : Word) (s : State) : (putAlertCodes w s).rTcenti = s.rTcenti := rfl
@[simp] theorem putAlertCodes_rRhcenti (w : Word) (s : State) : (putAlertCodes w s).rRhcenti = s.rRhcenti := rfl
@[simp] theorem putAlertCodes_rTf32 (w : Word) (s : State) : (putAlertCodes w s).rTf32 = s.rTf32 := rfl
@[simp] theorem putAlertCodes_rRhf32 (w : Word) (s : State) : (putAlertCodes w s).rRhf32 = s.rRhf32 := rfl
@[simp] theorem putAlertCodes_rWord (w : Word) (s : State) : (putAlertCodes w s).rWord = s.rWord := rfl
@[simp] theorem putAlertCodes_rFlags (w : Word) (s : State) : (putAlertCodes w s).rFlags = s.rFlags := rfl
@[simp] theorem putAlertCodes_rCrc (w : Word) (s : State) : (putAlertCodes w s).rCrc = s.rCrc := rfl
@[simp] theorem putAlertCodes_rBool (w : Word) (s : State) : (putAlertCodes w s).rBool = s.rBool := rfl
@[simp] theorem putAlertCodes_rCmd (w : Word) (s : State) : (putAlertCodes w s).rCmd = s.rCmd := rfl
@[simp] theorem putAlertCodes_params (w : Word) (s : State) : (putAlertCodes w s).params = s.params := rfl
@[simp] theorem putAlertCodes_inputs (w : Word) (s : State) : (putAlertCodes w s).inputs = s.inputs := rfl
@[simp] theorem putAlertCodes_writeScript (w : Word) (s : State) : (putAlertCodes w s).writeScript = s.writeScript := rfl
@[simp] theorem putAlertCodes_readScript (w : Word) (s : State) : (putAlertCodes w s).readScript = s.readScript := rfl
@[simp] theorem putAlertCodes_waitScript (w : Word) (s : State) : (putAlertCodes w s).waitScript = s.waitScript := rfl
@[simp] theorem putAlertCodes_draws (w : Word) (s : State) : (putAlertCodes w s).draws = s.draws := rfl
@[simp] theorem putAlertCodes_trace (w : Word) (s : State) : (putAlertCodes w s).trace = s.trace := rfl

/-! ### acceptRequest -/

@[simp] theorem acceptRequest_stCache (w : Word32) (rest : List Input) (s : State) : (acceptRequest w rest s).stCache = s.stCache := rfl
@[simp] theorem acceptRequest_lastCmd (w : Word32) (rest : List Input) (s : State) : (acceptRequest w rest s).lastCmd = s.lastCmd := rfl
@[simp] theorem acceptRequest_cadence (w : Word32) (rest : List Input) (s : State) : (acceptRequest w rest s).cadence = s.cadence := rfl
@[simp] theorem acceptRequest_resolution (w : Word32) (rest : List Input) (s : State) : (acceptRequest w rest s).resolution = s.resolution := rfl
@[simp] theorem acceptRequest_busy (w : Word32) (rest : List Input) (s : State) : (acceptRequest w rest s).busy = true := rfl
@[simp] theorem acceptRequest_fsm (w : Word32) (rest : List Input) (s : State) : (acceptRequest w rest s).fsm = s.fsm := rfl
@[simp] theorem acceptRequest_retry (w : Word32) (rest : List Input) (s : State) : (acceptRequest w rest s).retry = s.retry := rfl
@[simp] theorem acceptRequest_waitUs (w : Word32) (rest : List Input) (s : State) : (acceptRequest w rest s).waitUs = s.waitUs := rfl
@[simp] theorem acceptRequest_req (w : Word32) (rest : List Input) (s : State) : (acceptRequest w rest s).req = w := rfl
@[simp] theorem acceptRequest_a0 (w : Word32) (rest : List Input) (s : State) : (acceptRequest w rest s).a0 = s.a0 := rfl
@[simp] theorem acceptRequest_a1 (w : Word32) (rest : List Input) (s : State) : (acceptRequest w rest s).a1 = s.a1 := rfl
@[simp] theorem acceptRequest_rErr (w : Word32) (rest : List Input) (s : State) : (acceptRequest w rest s).rErr = s.rErr := rfl
@[simp] theorem acceptRequest_rTcode (w : Word32) (rest : List Input) (s : State) : (acceptRequest w rest s).rTcode = s.rTcode := rfl
@[simp] theorem acceptRequest_rRhcode (w : Word32) (rest : List Input) (s : State) : (acceptRequest w rest s).rRhcode = s.rRhcode := rfl
@[simp] theorem acceptRequest_rTcenti (w : Word32) (rest : List Input) (s : State) : (acceptRequest w rest s).rTcenti = s.rTcenti := rfl
@[simp] theorem acceptRequest_rRhcenti (w : Word32) (rest : List Input) (s : State) : (acceptRequest w rest s).rRhcenti = s.rRhcenti := rfl
@[simp] theorem acceptRequest_rTf32 (w : Word32) (rest : List Input) (s : State) : (acceptRequest w rest s).rTf32 = s.rTf32 := rfl
@[simp] theorem acceptRequest_rRhf32 (w : Word32) (rest : List Input) (s : State) : (acceptRequest w rest s).rRhf32 = s.rRhf32 := rfl
@[simp] theorem acceptRequest_rWord (w : Word32) (rest : List Input) (s : State) : (acceptRequest w rest s).rWord = s.rWord := rfl
@[simp] theorem acceptRequest_rFlags (w : Word32) (rest : List Input) (s : State) : (acceptRequest w rest s).rFlags = s.rFlags := rfl
@[simp] theorem acceptRequest_rCrc (w : Word32) (rest : List Input) (s : State) : (acceptRequest w rest s).rCrc = s.rCrc := rfl
@[simp] theorem acceptRequest_rBool (w : Word32) (rest : List Input) (s : State) : (acceptRequest w rest s).rBool = s.rBool := rfl
@[simp] theorem acceptRequest_rCmd (w : Word32) (rest : List Input) (s : State) : (acceptRequest w rest s).rCmd = s.rCmd := rfl
@[simp] theorem acceptRequest_params (w : Word32) (rest : List Input) (s : State) : (acceptRequest w rest s).params = s.params := rfl
@[simp] theorem acceptRequest_inputs (w : Word32) (rest : List Input) (s : State) : (acceptRequest w rest s).inputs = rest := rfl
@[simp] theorem acceptRequest_writeScript (w : Word32) (rest : List Input) (s : State) : (acceptRequest w rest s).writeScript = s.writeScript := rfl
@[simp] theorem acceptRequest_readScript (w : Word32) (rest : List Input) (s : State) : (acceptRequest w rest s).readScript = s.readScript := rfl
@[simp] theorem acceptRequest_waitScript (w : Word32) (rest : List Input) (s : State) : (acceptRequest w rest s).waitScript = s.waitScript := rfl
@[simp] theorem acceptRequest_draws (w : Word32) (rest : List Input) (s : State) : (acceptRequest w rest s).draws = s.draws := rfl
@[simp] theorem acceptRequest_trace (w : Word32) (rest : List Input) (s : State) : (acceptRequest w rest s).trace = s.trace := rfl

/-! ### acceptEmit -/

@[simp] theorem acceptEmit_stCache (rest : List Input) (s : State) : (acceptEmit rest s).stCache = s.stCache := rfl
@[simp] theorem acceptEmit_lastCmd (rest : List Input) (s : State) : (acceptEmit rest s).lastCmd = s.lastCmd := rfl
@[simp] theorem acceptEmit_cadence (rest : List Input) (s : State) : (acceptEmit rest s).cadence = s.cadence := rfl
@[simp] theorem acceptEmit_resolution (rest : List Input) (s : State) : (acceptEmit rest s).resolution = s.resolution := rfl
@[simp] theorem acceptEmit_busy (rest : List Input) (s : State) : (acceptEmit rest s).busy = true := rfl
@[simp] theorem acceptEmit_fsm (rest : List Input) (s : State) : (acceptEmit rest s).fsm = s.fsm := rfl
@[simp] theorem acceptEmit_retry (rest : List Input) (s : State) : (acceptEmit rest s).retry = s.retry := rfl
@[simp] theorem acceptEmit_waitUs (rest : List Input) (s : State) : (acceptEmit rest s).waitUs = s.waitUs := rfl
@[simp] theorem acceptEmit_req (rest : List Input) (s : State) : (acceptEmit rest s).req = s.req := rfl
@[simp] theorem acceptEmit_a0 (rest : List Input) (s : State) : (acceptEmit rest s).a0 = s.a0 := rfl
@[simp] theorem acceptEmit_a1 (rest : List Input) (s : State) : (acceptEmit rest s).a1 = s.a1 := rfl
@[simp] theorem acceptEmit_rErr (rest : List Input) (s : State) : (acceptEmit rest s).rErr = s.rErr := rfl
@[simp] theorem acceptEmit_rTcode (rest : List Input) (s : State) : (acceptEmit rest s).rTcode = s.rTcode := rfl
@[simp] theorem acceptEmit_rRhcode (rest : List Input) (s : State) : (acceptEmit rest s).rRhcode = s.rRhcode := rfl
@[simp] theorem acceptEmit_rTcenti (rest : List Input) (s : State) : (acceptEmit rest s).rTcenti = s.rTcenti := rfl
@[simp] theorem acceptEmit_rRhcenti (rest : List Input) (s : State) : (acceptEmit rest s).rRhcenti = s.rRhcenti := rfl
@[simp] theorem acceptEmit_rTf32 (rest : List Input) (s : State) : (acceptEmit rest s).rTf32 = s.rTf32 := rfl
@[simp] theorem acceptEmit_rRhf32 (rest : List Input) (s : State) : (acceptEmit rest s).rRhf32 = s.rRhf32 := rfl
@[simp] theorem acceptEmit_rWord (rest : List Input) (s : State) : (acceptEmit rest s).rWord = s.rWord := rfl
@[simp] theorem acceptEmit_rFlags (rest : List Input) (s : State) : (acceptEmit rest s).rFlags = s.rFlags := rfl
@[simp] theorem acceptEmit_rCrc (rest : List Input) (s : State) : (acceptEmit rest s).rCrc = s.rCrc := rfl
@[simp] theorem acceptEmit_rBool (rest : List Input) (s : State) : (acceptEmit rest s).rBool = s.rBool := rfl
@[simp] theorem acceptEmit_rCmd (rest : List Input) (s : State) : (acceptEmit rest s).rCmd = s.rCmd := rfl
@[simp] theorem acceptEmit_params (rest : List Input) (s : State) : (acceptEmit rest s).params = s.params := rfl
@[simp] theorem acceptEmit_inputs (rest : List Input) (s : State) : (acceptEmit rest s).inputs = rest := rfl
@[simp] theorem acceptEmit_writeScript (rest : List Input) (s : State) : (acceptEmit rest s).writeScript = s.writeScript := rfl
@[simp] theorem acceptEmit_readScript (rest : List Input) (s : State) : (acceptEmit rest s).readScript = s.readScript := rfl
@[simp] theorem acceptEmit_waitScript (rest : List Input) (s : State) : (acceptEmit rest s).waitScript = s.waitScript := rfl
@[simp] theorem acceptEmit_draws (rest : List Input) (s : State) : (acceptEmit rest s).draws = s.draws := rfl
@[simp] theorem acceptEmit_trace (rest : List Input) (s : State) : (acceptEmit rest s).trace = s.trace := rfl

/-! ### recordAbf -/

/-- The command is recorded under AllButFetch, and nothing happens under StartBreakOnly (R26). -/
theorem recordAbf_eq (c : Word) (s : State) :
    recordAbf c s = { s with
      lastCmd := match s.params.lcPolicy with
        | .startBreakOnly => s.lastCmd
        | .allButFetch => some c } := by
  cases h : s.params.lcPolicy <;> simp [recordAbf, record, h]

@[simp] theorem recordAbf_lastCmd (c : Word) (s : State) :
    (recordAbf c s).lastCmd = match s.params.lcPolicy with
      | .startBreakOnly => s.lastCmd
      | .allButFetch => some c := by
  cases h : s.params.lcPolicy <;> simp [recordAbf, record, h]

@[simp] theorem recordAbf_stCache (c : Word) (s : State) : (recordAbf c s).stCache = s.stCache := by
  cases h : s.params.lcPolicy <;> simp [recordAbf, record, h]
@[simp] theorem recordAbf_cadence (c : Word) (s : State) : (recordAbf c s).cadence = s.cadence := by
  cases h : s.params.lcPolicy <;> simp [recordAbf, record, h]
@[simp] theorem recordAbf_resolution (c : Word) (s : State) : (recordAbf c s).resolution = s.resolution := by
  cases h : s.params.lcPolicy <;> simp [recordAbf, record, h]
@[simp] theorem recordAbf_busy (c : Word) (s : State) : (recordAbf c s).busy = s.busy := by
  cases h : s.params.lcPolicy <;> simp [recordAbf, record, h]
@[simp] theorem recordAbf_fsm (c : Word) (s : State) : (recordAbf c s).fsm = s.fsm := by
  cases h : s.params.lcPolicy <;> simp [recordAbf, record, h]
@[simp] theorem recordAbf_retry (c : Word) (s : State) : (recordAbf c s).retry = s.retry := by
  cases h : s.params.lcPolicy <;> simp [recordAbf, record, h]
@[simp] theorem recordAbf_waitUs (c : Word) (s : State) : (recordAbf c s).waitUs = s.waitUs := by
  cases h : s.params.lcPolicy <;> simp [recordAbf, record, h]
@[simp] theorem recordAbf_req (c : Word) (s : State) : (recordAbf c s).req = s.req := by
  cases h : s.params.lcPolicy <;> simp [recordAbf, record, h]
@[simp] theorem recordAbf_a0 (c : Word) (s : State) : (recordAbf c s).a0 = s.a0 := by
  cases h : s.params.lcPolicy <;> simp [recordAbf, record, h]
@[simp] theorem recordAbf_a1 (c : Word) (s : State) : (recordAbf c s).a1 = s.a1 := by
  cases h : s.params.lcPolicy <;> simp [recordAbf, record, h]
@[simp] theorem recordAbf_rErr (c : Word) (s : State) : (recordAbf c s).rErr = s.rErr := by
  cases h : s.params.lcPolicy <;> simp [recordAbf, record, h]
@[simp] theorem recordAbf_rTcode (c : Word) (s : State) : (recordAbf c s).rTcode = s.rTcode := by
  cases h : s.params.lcPolicy <;> simp [recordAbf, record, h]
@[simp] theorem recordAbf_rRhcode (c : Word) (s : State) : (recordAbf c s).rRhcode = s.rRhcode := by
  cases h : s.params.lcPolicy <;> simp [recordAbf, record, h]
@[simp] theorem recordAbf_rTcenti (c : Word) (s : State) : (recordAbf c s).rTcenti = s.rTcenti := by
  cases h : s.params.lcPolicy <;> simp [recordAbf, record, h]
@[simp] theorem recordAbf_rRhcenti (c : Word) (s : State) : (recordAbf c s).rRhcenti = s.rRhcenti := by
  cases h : s.params.lcPolicy <;> simp [recordAbf, record, h]
@[simp] theorem recordAbf_rTf32 (c : Word) (s : State) : (recordAbf c s).rTf32 = s.rTf32 := by
  cases h : s.params.lcPolicy <;> simp [recordAbf, record, h]
@[simp] theorem recordAbf_rRhf32 (c : Word) (s : State) : (recordAbf c s).rRhf32 = s.rRhf32 := by
  cases h : s.params.lcPolicy <;> simp [recordAbf, record, h]
@[simp] theorem recordAbf_rWord (c : Word) (s : State) : (recordAbf c s).rWord = s.rWord := by
  cases h : s.params.lcPolicy <;> simp [recordAbf, record, h]
@[simp] theorem recordAbf_rFlags (c : Word) (s : State) : (recordAbf c s).rFlags = s.rFlags := by
  cases h : s.params.lcPolicy <;> simp [recordAbf, record, h]
@[simp] theorem recordAbf_rCrc (c : Word) (s : State) : (recordAbf c s).rCrc = s.rCrc := by
  cases h : s.params.lcPolicy <;> simp [recordAbf, record, h]
@[simp] theorem recordAbf_rBool (c : Word) (s : State) : (recordAbf c s).rBool = s.rBool := by
  cases h : s.params.lcPolicy <;> simp [recordAbf, record, h]
@[simp] theorem recordAbf_rCmd (c : Word) (s : State) : (recordAbf c s).rCmd = s.rCmd := by
  cases h : s.params.lcPolicy <;> simp [recordAbf, record, h]
@[simp] theorem recordAbf_params (c : Word) (s : State) : (recordAbf c s).params = s.params := by
  cases h : s.params.lcPolicy <;> simp [recordAbf, record, h]
@[simp] theorem recordAbf_inputs (c : Word) (s : State) : (recordAbf c s).inputs = s.inputs := by
  cases h : s.params.lcPolicy <;> simp [recordAbf, record, h]
@[simp] theorem recordAbf_writeScript (c : Word) (s : State) : (recordAbf c s).writeScript = s.writeScript := by
  cases h : s.params.lcPolicy <;> simp [recordAbf, record, h]
@[simp] theorem recordAbf_readScript (c : Word) (s : State) : (recordAbf c s).readScript = s.readScript := by
  cases h : s.params.lcPolicy <;> simp [recordAbf, record, h]
@[simp] theorem recordAbf_waitScript (c : Word) (s : State) : (recordAbf c s).waitScript = s.waitScript := by
  cases h : s.params.lcPolicy <;> simp [recordAbf, record, h]
@[simp] theorem recordAbf_draws (c : Word) (s : State) : (recordAbf c s).draws = s.draws := by
  cases h : s.params.lcPolicy <;> simp [recordAbf, record, h]
@[simp] theorem recordAbf_trace (c : Word) (s : State) : (recordAbf c s).trace = s.trace := by
  cases h : s.params.lcPolicy <;> simp [recordAbf, record, h]

/-! ### start -/

/-- The cache is emptied by the operations of ST_INVALIDATORS, and nothing else changes (R176). -/
theorem start_eq (o : Op) (s : State) :
    start o s = { s with stCache := if o ∈ s.params.stInvalidators then none else s.stCache } := by
  by_cases h : o ∈ s.params.stInvalidators <;> simp [start, invalidate, h]

@[simp] theorem start_stCache (o : Op) (s : State) :
    (start o s).stCache = if o ∈ s.params.stInvalidators then none else s.stCache := by
  rw [start_eq]
@[simp] theorem start_lastCmd (o : Op) (s : State) : (start o s).lastCmd = s.lastCmd := by
  rw [start_eq]
@[simp] theorem start_cadence (o : Op) (s : State) : (start o s).cadence = s.cadence := by
  rw [start_eq]
@[simp] theorem start_resolution (o : Op) (s : State) : (start o s).resolution = s.resolution := by
  rw [start_eq]
@[simp] theorem start_busy (o : Op) (s : State) : (start o s).busy = s.busy := by
  rw [start_eq]
@[simp] theorem start_fsm (o : Op) (s : State) : (start o s).fsm = s.fsm := by
  rw [start_eq]
@[simp] theorem start_retry (o : Op) (s : State) : (start o s).retry = s.retry := by
  rw [start_eq]
@[simp] theorem start_waitUs (o : Op) (s : State) : (start o s).waitUs = s.waitUs := by
  rw [start_eq]
@[simp] theorem start_req (o : Op) (s : State) : (start o s).req = s.req := by
  rw [start_eq]
@[simp] theorem start_a0 (o : Op) (s : State) : (start o s).a0 = s.a0 := by
  rw [start_eq]
@[simp] theorem start_a1 (o : Op) (s : State) : (start o s).a1 = s.a1 := by
  rw [start_eq]
@[simp] theorem start_rErr (o : Op) (s : State) : (start o s).rErr = s.rErr := by
  rw [start_eq]
@[simp] theorem start_rTcode (o : Op) (s : State) : (start o s).rTcode = s.rTcode := by
  rw [start_eq]
@[simp] theorem start_rRhcode (o : Op) (s : State) : (start o s).rRhcode = s.rRhcode := by
  rw [start_eq]
@[simp] theorem start_rTcenti (o : Op) (s : State) : (start o s).rTcenti = s.rTcenti := by
  rw [start_eq]
@[simp] theorem start_rRhcenti (o : Op) (s : State) : (start o s).rRhcenti = s.rRhcenti := by
  rw [start_eq]
@[simp] theorem start_rTf32 (o : Op) (s : State) : (start o s).rTf32 = s.rTf32 := by
  rw [start_eq]
@[simp] theorem start_rRhf32 (o : Op) (s : State) : (start o s).rRhf32 = s.rRhf32 := by
  rw [start_eq]
@[simp] theorem start_rWord (o : Op) (s : State) : (start o s).rWord = s.rWord := by
  rw [start_eq]
@[simp] theorem start_rFlags (o : Op) (s : State) : (start o s).rFlags = s.rFlags := by
  rw [start_eq]
@[simp] theorem start_rCrc (o : Op) (s : State) : (start o s).rCrc = s.rCrc := by
  rw [start_eq]
@[simp] theorem start_rBool (o : Op) (s : State) : (start o s).rBool = s.rBool := by
  rw [start_eq]
@[simp] theorem start_rCmd (o : Op) (s : State) : (start o s).rCmd = s.rCmd := by
  rw [start_eq]
@[simp] theorem start_params (o : Op) (s : State) : (start o s).params = s.params := by
  rw [start_eq]
@[simp] theorem start_inputs (o : Op) (s : State) : (start o s).inputs = s.inputs := by
  rw [start_eq]
@[simp] theorem start_writeScript (o : Op) (s : State) : (start o s).writeScript = s.writeScript := by
  rw [start_eq]
@[simp] theorem start_readScript (o : Op) (s : State) : (start o s).readScript = s.readScript := by
  rw [start_eq]
@[simp] theorem start_waitScript (o : Op) (s : State) : (start o s).waitScript = s.waitScript := by
  rw [start_eq]
@[simp] theorem start_draws (o : Op) (s : State) : (start o s).draws = s.draws := by
  rw [start_eq]
@[simp] theorem start_trace (o : Op) (s : State) : (start o s).trace = s.trace := by
  rw [start_eq]

/-! ### quiescent() depends on the recorded command, the session descriptor and the parameters alone -/

theorem quiescent_congr (s t : State) (h1 : s.lastCmd = t.lastCmd) (h2 : s.cadence = t.cadence)
    (h3 : s.resolution = t.resolution) (h4 : s.params = t.params) : quiescent s = quiescent t := by
  cases s; cases t
  simp only at h1 h2 h3 h4
  subst h1 h2 h3 h4
  rfl

@[simp] theorem quiescent_endWith (c : BitVec 4) (s : State) : quiescent (endWith c s) = quiescent s := rfl
@[simp] theorem quiescent_raise (e : ErrCode) (s : State) : quiescent (raise e s) = quiescent s := rfl
@[simp] theorem quiescent_done (s : State) : quiescent (done s) = quiescent s := rfl
@[simp] theorem quiescent_logEvent (e : Event) (s : State) : quiescent (logEvent e s) = quiescent s := rfl
@[simp] theorem quiescent_wait (us : Nat) (s : State) : quiescent (wait us s) = quiescent s := rfl
@[simp] theorem quiescent_hang (s : State) : quiescent (hang s) = quiescent s := rfl
@[simp] theorem quiescent_invalidate (s : State) : quiescent (invalidate s) = quiescent s := rfl
@[simp] theorem quiescent_start (o : Op) (s : State) : quiescent (start o s) = quiescent s := by
  rw [start_eq]; rfl
@[simp] theorem activeSession_start (o : Op) (s : State) : activeSession (start o s) = activeSession s := by
  rw [start_eq]; rfl

end Sys2Proof.Machine
end

