-- ==== Sys2Proof/Laws/Ops.lean ====
section
/-! SUPPORT. For each shared operation, one lemma that says once everything it can do, and its
equation on a scripted environment. -/

namespace Sys2Proof.Machine
open Sys2Proof.Config

/-! ## BusWrite -/

/-- All that `busWrite` can change: the write script, the draw counter, and one event more if the
transport returned. -/
theorem busWrite_state (bytes : List Byte) (s : State) :
    ∃ a ws d, busWrite bytes s =
      (a, { s with
        writeScript := ws, draws := d, trace := s.trace ++ a.toList.map (.write bytes) }) := by
  refine ⟨(drawWrite s).1, (drawWrite s).2.writeScript, (drawWrite s).2.draws, ?_⟩
  rcases hs : s.writeScript with _ | ⟨_ | a, ws⟩
  · cases hf : freeWrite s.draws <;> simp [busWrite, drawWrite, logEvent, hs, hf]
  · simp [busWrite, drawWrite, hs]
  · simp [busWrite, drawWrite, logEvent, hs]

theorem busWrite_script {s : State} {a : WriteAnswer} {ws : List (Option WriteAnswer)}
    (bytes : List Byte) (h : s.writeScript = some a :: ws) :
    busWrite bytes s =
      (some a, { s with writeScript := ws, trace := s.trace ++ [.write bytes a] }) := by
  simp only [busWrite, drawWrite, logEvent, h]

/-- `writeThen` goes on after `Ok`, ends the operation after `Nack` or `IoErr`, and hangs where the
transport never returns. -/
theorem writeThen_cases (bytes : List Byte) (s : State) (k : State → State) :
    ∃ ws d,
      writeThen bytes s k =
          k { s with writeScript := ws, draws := d, trace := s.trace ++ [.write bytes .ok] } ∨
      writeThen bytes s k = raise .busNotAcknowledging
          { s with writeScript := ws, draws := d, trace := s.trace ++ [.write bytes .nack] } ∨
      writeThen bytes s k = raise .busIOError
          { s with writeScript := ws, draws := d, trace := s.trace ++ [.write bytes .ioErr] } ∨
      writeThen bytes s k = hang { s with writeScript := ws, draws := d } := by
  obtain ⟨a, ws, d, h⟩ := busWrite_state bytes s
  refine ⟨ws, d, ?_⟩
  rcases a with _ | _ | _ | _ <;> simp [writeThen, h]

theorem writeThen_ok {s : State} {ws : List (Option WriteAnswer)} (bytes : List Byte)
    (k : State → State) (h : s.writeScript = some .ok :: ws) :
    writeThen bytes s k =
      k { s with writeScript := ws, trace := s.trace ++ [.write bytes .ok] } := by
  simp only [writeThen, busWrite_script bytes h]

theorem writeThen_nack {s : State} {ws : List (Option WriteAnswer)} (bytes : List Byte)
    (k : State → State) (h : s.writeScript = some .nack :: ws) :
    writeThen bytes s k = raise .busNotAcknowledging
      { s with writeScript := ws, trace := s.trace ++ [.write bytes .nack] } := by
  simp only [writeThen, busWrite_script bytes h]

theorem writeThen_ioErr {s : State} {ws : List (Option WriteAnswer)} (bytes : List Byte)
    (k : State → State) (h : s.writeScript = some .ioErr :: ws) :
    writeThen bytes s k = raise .busIOError
      { s with writeScript := ws, trace := s.trace ++ [.write bytes .ioErr] } := by
  simp only [writeThen, busWrite_script bytes h]

theorem writeThen_hang {s : State} {ws : List (Option WriteAnswer)} (bytes : List Byte)
    (k : State → State) (h : s.writeScript = none :: ws) :
    writeThen bytes s k = hang { s with writeScript := ws } := by
  simp only [writeThen, busWrite, drawWrite, h]

/-! ## BusRead -/

/-- An `Ok` that reaches the block has the requested length (R51). -/
theorem fitRead_length {n : Nat} {a : ReadAnswer} {bytes : List Byte} (h : fitRead n a = .ok bytes) :
    bytes.length = n := by
  cases a with
  | ok b =>
    simp only [fitRead] at h
    split at h
    · cases h; assumption
    · cases h
  | nack => cases h
  | ioErr => cases h

/-- All that `busRead` can change: the read script, the draw counter, and one event more if the transport
returned; its answer has the requested length. -/
theorem busRead_state (n : Nat) (s : State) :
    ∃ a rs d, busRead n s =
        (a, { s with readScript := rs, draws := d, trace := s.trace ++ a.toList.map (.read n) }) ∧
      ∀ bytes, a = some (.ok bytes) → bytes.length = n := by
  refine ⟨(drawRead s).1.map (fitRead n), (drawRead s).2.readScript, (drawRead s).2.draws, ?_, ?_⟩
  · rcases hs : s.readScript with _ | ⟨_ | a, rs⟩
    · cases hf : freeRead s.draws <;> simp [busRead, drawRead, logEvent, hs, hf]
    · simp [busRead, drawRead, hs]
    · simp [busRead, drawRead, logEvent, hs]
  · intro bytes hb
    obtain ⟨a, -, ha⟩ := Option.map_eq_some_iff.mp hb
    exact fitRead_length ha

theorem busRead_script {s : State} {a : ReadAnswer} {rs : List (Option ReadAnswer)} (n : Nat)
    (h : s.readScript = some a :: rs) :
    busRead n s =
      (some (fitRead n a),
        { s with readScript := rs, trace := s.trace ++ [.read n (fitRead n a)] }) := by
  simp only [busRead, drawRead, logEvent, h]

theorem busRead_hang {s : State} {rs : List (Option ReadAnswer)} (n : Nat)
    (h : s.readScript = none :: rs) : busRead n s = (none, { s with readScript := rs }) := by
  simp only [busRead, drawRead, h]

/-- `readThen` goes on after an `Ok` of the requested length, ends the operation after another answer,
and hangs where the transport never returns. -/
theorem readThen_cases (n : Nat) (s : State) (k : List Byte → State → State) :
    ∃ rs d,
      (∃ bytes, bytes.length = n ∧ readThen n s k =
          k bytes { s with readScript := rs, draws := d, trace := s.trace ++ [.read n (.ok bytes)] }) ∨
      readThen n s k = raise .busNotAcknowledging
          { s with readScript := rs, draws := d, trace := s.trace ++ [.read n .nack] } ∨
      readThen n s k = raise .busIOError
          { s with readScript := rs, draws := d, trace := s.trace ++ [.read n .ioErr] } ∨
      readThen n s k = hang { s with readScript := rs, draws := d } := by
  obtain ⟨a, rs, d, h, hl⟩ := busRead_state n s
  refine ⟨rs, d, ?_⟩
  rcases a with _ | bytes | _ | _
  · exact .inr (.inr (.inr (by simp [readThen, h])))
  · exact .inl ⟨bytes, hl bytes rfl, by simp [readThen, h]⟩
  · exact .inr (.inl (by simp [readThen, h]))
  · exact .inr (.inr (.inl (by simp [readThen, h])))

theorem readThen_ok {s : State} {rs : List (Option ReadAnswer)} {n : Nat} {bytes : List Byte}
    (k : List Byte → State → State) (h : s.readScript = some (.ok bytes) :: rs)
    (hl : bytes.length = n) :
    readThen n s k =
      k bytes { s with readScript := rs, trace := s.trace ++ [.read n (.ok bytes)] } := by
  simp only [readThen, busRead_script n h, fitRead, hl, if_true]

theorem readThen_nack {s : State} {rs : List (Option ReadAnswer)} (n : Nat)
    (k : List Byte → State → State) (h : s.readScript = some .nack :: rs) :
    readThen n s k = raise .busNotAcknowledging
      { s with readScript := rs, trace := s.trace ++ [.read n .nack] } := by
  simp only [readThen, busRead_script n h, fitRead]

theorem readThen_ioErr {s : State} {rs : List (Option ReadAnswer)} (n : Nat)
    (k : List Byte → State → State) (h : s.readScript = some .ioErr :: rs) :
    readThen n s k = raise .busIOError
      { s with readScript := rs, trace := s.trace ++ [.read n .ioErr] } := by
  simp only [readThen, busRead_script n h, fitRead]

theorem readThen_hang {s : State} {rs : List (Option ReadAnswer)} (n : Nat)
    (k : List Byte → State → State) (h : s.readScript = none :: rs) :
    readThen n s k = hang { s with readScript := rs } := by
  simp only [readThen, busRead_hang n h]

/-! ## CWait -/

/-- An elapsed wait lasted its duration; an aborted one ended strictly before (R261). -/
theorem waitResult_cases (us : Nat) (g : Signal) :
    (waitResult us g = (.elapsed, us)) ∨
    (∃ e, e < us ∧ waitResult us g = (.cancelled, e)) ∨
    (∃ e, e < us ∧ waitResult us g = (.deadlineExceeded, e)) := by
  cases g with
  | quiet => exact .inl rfl
  | cancelAt e =>
    by_cases h : e < us
    · exact .inr (.inl ⟨e, h, by simp only [waitResult, h, if_true]⟩)
    · exact .inl (by simp only [waitResult, h, if_false])
  | deadlineAt e =>
    by_cases h : e < us
    · exact .inr (.inr ⟨e, h, by simp only [waitResult, h, if_true]⟩)
    · exact .inl (by simp only [waitResult, h, if_false])

/-- All that `cwait` can change: the wait script, the draw counter, and one event more. -/
theorem cwait_state (us : Nat) (s : State) :
    ∃ g gs d, cwait us s =
      ((waitResult us g).1,
        { s with waitScript := gs, draws := d,
                 trace := s.trace ++ [.waited us (waitResult us g).2 (waitResult us g).1] }) := by
  cases h : s.waitScript <;> simp only [cwait, drawSignal, logEvent, h] <;> exact ⟨_, _, _, rfl⟩

theorem cwait_script {s : State} {g : Signal} {gs : List Signal} (us : Nat)
    (h : s.waitScript = g :: gs) :
    cwait us s =
      ((waitResult us g).1,
        { s with waitScript := gs,
                 trace := s.trace ++ [.waited us (waitResult us g).2 (waitResult us g).1] }) := by
  simp only [cwait, drawSignal, logEvent, h]

/-! ## The session -/

/-- A session is active when a periodic-start opcode is recorded that is the one CADENCE and RESOLUTION
imply (R32). -/
theorem activeSession_eq_some {s : State} {cad : Cadence} {res : Resolution} :
    activeSession s = some (cad, res) ↔
      ∃ c, s.lastCmd = some c ∧ isPeriodic s.params.cmd c = true ∧ cadence? s.cadence = some cad ∧
        resolution? s.resolution = some res ∧ c = cmdPeriodic s.params.cmd cad res := by
  unfold activeSession
  constructor
  · intro h
    split at h
    · cases h
    · rename_i c hc
      split at h
      · rename_i hp
        split at h
        · rename_i a b ha hb
          split at h
          · rename_i he
            cases h
            exact ⟨c, hc, hp, ha, hb, he⟩
          · cases h
        · cases h
      · cases h
  · rintro ⟨c, hc, hp, ha, hb, he⟩
    subst he
    simp only [hc, hp, ha, hb, if_true]

/-! ## Received blocks -/

/-- A block gives its word when its checksum is good (R55, R133). -/
theorem blockWord_zero (p : Params) (d0 d1 k : Byte) (rest : List Byte) :
    blockWord p (d0 :: d1 :: k :: rest) 0 =
      if blockCrc p d0 d1 = k then some (busWord p.wordOrder d0 d1) else none := by
  simp [blockWord, crcOk]

/-- The second block of a six-byte frame. -/
theorem blockWord_three (p : Params) (t0 t1 kt d0 d1 k : Byte) (rest : List Byte) :
    blockWord p (t0 :: t1 :: kt :: d0 :: d1 :: k :: rest) 3 =
      if blockCrc p d0 d1 = k then some (busWord p.wordOrder d0 d1) else none := by
  simp [blockWord, crcOk]

end Sys2Proof.Machine
end

