-- ==== Sys2Proof/Laws/Engine.lean ====
section
/-! SUPPORT. What the steps shared by the measurement and status operations do, on a scripted
environment, and the encodings of the session descriptor read back. -/

namespace Sys2Proof.Machine
open Sys2Proof.Config Sys2Proof.Safety

/-- What LC holds after `recordAbf` (R26). -/
theorem recordAbf_recorded (c : Word) (s : State) :
    recordAbf c s = { s with lastCmd := recorded s c } := recordAbf_eq c s

/-! ## Encodings of the session descriptor -/

theorem cadence?_bits (c : Cadence) : cadence? (cadenceBits c) = some c := by cases c <;> rfl

theorem resolution?_bits (r : Resolution) : resolution? (resolutionBits r) = some r := by
  cases r <;> rfl

theorem cadence?_eq_some {b : BitVec 3} {c : Cadence} : cadence? b = some c ↔ b = cadenceBits c := by
  constructor
  · revert b
    cases c <;> decide
  · rintro rfl
    exact cadence?_bits c

theorem resolution?_eq_some {b : BitVec 2} {r : Resolution} :
    resolution? b = some r ↔ b = resolutionBits r := by
  constructor
  · revert b
    cases r <;> decide
  · rintro rfl
    exact resolution?_bits r

/-! ## A received sample (R201) -/

theorem decodeSample_six (p : Params) (t0 t1 kt h0 h1 kh : Byte) :
    decodeSample p [t0, t1, kt, h0, h1, kh] =
      if blockCrc p t0 t1 = kt ∧ blockCrc p h0 h1 = kh then
        some (busWord p.wordOrder t0 t1, busWord p.wordOrder h0 h1)
      else none := by
  simp only [decodeSample, blockWord_zero, blockWord_three]
  by_cases ht : blockCrc p t0 t1 = kt <;> by_cases hh : blockCrc p h0 h1 = kh <;> simp [ht, hh]

/-- All that `deliverSample` can change: the two codes, and with `conv` the physical results (R202). -/
theorem deliverSample_eq (conv : Bool) (tc hc : Word) (s : State) :
    deliverSample conv tc hc s = { s with
      rTcode := tc, rRhcode := hc
      rTcenti := if conv then BitVec.ofInt 16 (tCenti s.params.convArith tc) else s.rTcenti
      rTf32 := if conv then b32Centi (tCenti s.params.convArith tc) else s.rTf32
      rRhcenti := if conv then BitVec.ofInt 16 (rhCenti s.params.convArith hc) else s.rRhcenti
      rRhf32 := if conv then b32Centi (rhCenti s.params.convArith hc) else s.rRhf32 } := by
  cases conv <;> simp [deliverSample, putPercent, putCelsius]

/-! ## The retry loop of FETCH (R205) -/

theorem fetchLoop_ok {conv : Bool} {n : Nat} {s : State} {bytes : List Byte} {rs : List (Option ReadAnswer)}
    (h : s.readScript = some (.ok bytes) :: rs) (hl : bytes.length = 6) :
    fetchLoop conv n s = finishSample conv bytes
      { s with readScript := rs, trace := s.trace ++ [.read 6 (.ok bytes)] } := by
  cases n <;> simp only [fetchLoop, busRead_script 6 h, fitRead, hl, if_true]

theorem fetchLoop_ioErr {conv : Bool} {n : Nat} {s : State} {rs : List (Option ReadAnswer)}
    (h : s.readScript = some .ioErr :: rs) :
    fetchLoop conv n s = raise .busIOError
      { s with readScript := rs, trace := s.trace ++ [.read 6 .ioErr] } := by
  cases n <;> simp only [fetchLoop, busRead_script 6 h, fitRead]

theorem fetchLoop_hang {conv : Bool} {n : Nat} {s : State} {rs : List (Option ReadAnswer)}
    (h : s.readScript = none :: rs) : fetchLoop conv n s = hang { s with readScript := rs } := by
  cases n <;> simp only [fetchLoop, busRead_hang 6 h]

theorem fetchLoop_exhausted {conv : Bool} {s : State} {rs : List (Option ReadAnswer)}
    (h : s.readScript = some .nack :: rs) :
    fetchLoop conv 0 s = raise .busNotAcknowledging
      { s with readScript := rs, trace := s.trace ++ [.read 6 .nack] } := by
  simp only [fetchLoop, busRead_script 6 h, fitRead]

/-- One refused read and the wait after it: the wait is aborted, or the loop goes on with one retry
less, and with a tenth of the wait after the first. -/
theorem fetchLoop_nack {conv : Bool} {m : Nat} {s : State} {g : Signal} {rs : List (Option ReadAnswer)}
    {gs : List Signal} (h : s.readScript = some .nack :: rs) (hw : s.waitScript = g :: gs) :
    fetchLoop conv (m + 1) s =
      let us := s.waitUs.toNat
      let s2 := { s with
        readScript := rs, waitScript := gs
        trace := s.trace ++ [.read 6 .nack] ++ [.waited us (waitResult us g).2 (waitResult us g).1] }
      match (waitResult us g).1 with
      | .cancelled => raise .cancelled s2
      | .deadlineExceeded => raise .deadlineExceeded s2
      | .elapsed =>
        fetchLoop conv m
          { s2 with
            waitUs := if m + 1 = retryBudget then s2.waitUs / BitVec.ofNat 21 backoffDiv else s2.waitUs
            retry := BitVec.ofNat 3 m } := by
  conv_lhs => unfold fetchLoop
  simp only [busRead_script 6 h, fitRead]
  rw [cwait_script (gs := gs) (g := g) _ (by exact hw)]
  rcases waitResult_cases s.waitUs.toNat g with h | ⟨e, _, h⟩ | ⟨e, _, h⟩ <;> simp only [h]

/-! ## The two transactions of a status read (R174) -/

theorem statusMiss_good {s : State} {d0 d1 : Byte} {ws : List (Option WriteAnswer)}
    {rs : List (Option ReadAnswer)} (k : State → State) (hw : s.writeScript = some .ok :: ws)
    (hr : s.readScript = some (.ok (goodBlockBytes s.params d0 d1)) :: rs) :
    statusMiss k s =
      let c := cmdFixed s.params.cmd .statusRead
      let w := busWord s.params.wordOrder d0 d1
      k { s with
        stCache := some w, lastCmd := recorded s c
        rWord := w, rFlags := stDecode s.params.statusBit w
        writeScript := ws, readScript := rs
        trace := s.trace ++ [.write (cmdBytes c) .ok] ++
          [.read 3 (.ok (goodBlockBytes s.params d0 d1))] } := by
  simp only [statusMiss]
  rw [writeThen_ok _ _ hw, recordAbf_recorded,
    readThen_ok (n := 3) (bytes := goodBlockBytes s.params d0 d1) (rs := rs) _ (by exact hr) rfl]
  simp only [goodBlockBytes, blockWord_zero, if_true]
  rfl

end Sys2Proof.Machine
end

