-- ==== Sys2Proof/Laws/PerInstr.lean ====
section
/-! SUPPORT. A fact of every instruction as syntax, one lemma per constructor. -/

namespace Sys2Proof.Laws
open Sys2Proof.Config Sys2Proof.Machine

/-- A word of a form of the opcode table: a request whose `op` is the number of one of the 28 operations
of R72, or one of the 33 command words of R80 to R112. -/
def inTable (p : Params) : Encoded → Bool
  | .request w => (allOps.map (opNumber p.hostop)).contains (reqOp w)
  | .command c => (allCmds.map (cmdWord p.cmd)).contains c

/-- The encoding of an instruction has a form of the opcode table. -/
def EncodingForm.Statement (i : Instr) : Prop := ∀ p : Params, inTable p (encode p i) = true

/-- The number of an operation is in the table. -/
theorem inTable_op (p : Params) (o : Op) (w : Word32) (h : reqOp w = opNumber p.hostop o) :
    inTable p (.request w) = true := by
  simp only [inTable, h, List.contains_eq_mem, decide_eq_true_eq]
  exact List.mem_map_of_mem (by cases o <;> decide)

/-- The word of a command name is in the table. -/
theorem inTable_cmd (p : Params) (n : Cmd) : inTable p (.command (cmdWord p.cmd n)) = true := by
  simp only [inTable, List.contains_eq_mem, decide_eq_true_eq]
  refine List.mem_map_of_mem ?_
  rcases n with r | ⟨c, r⟩ | f | t | t
  · cases r <;> decide
  · cases c <;> cases r <;> decide
  · cases f <;> decide
  · cases t <;> decide
  · cases t <;> decide

/-- The operation byte of a packed request. -/
theorem reqOp_packReq (op sel : Byte) (data : Word) : reqOp (packReq op sel data) = op := by
  apply BitVec.eq_of_getLsbD_eq
  intro i hi
  simp only [reqOp, packReq, BitVec.getLsbD_extractLsb', BitVec.getLsbD_append]
  simp [hi, show ¬ (24 + i < 16) by omega, show ¬ (24 + i - 16 < 8) by omega,
    show 24 + i - 16 - 8 = i by omega]

theorem EncodingForm.crc8 (seed b0 b1 : Byte) :
    EncodingForm.Statement (.crc8 seed b0 b1) :=
  fun p => inTable_op p .crc8 _ (reqOp_packReq _ _ _)

theorem EncodingForm.code2c (code : Word) :
    EncodingForm.Statement (.code2c code) :=
  fun p => inTable_op p .code2c _ (reqOp_packReq _ _ _)

theorem EncodingForm.code2rh (code : Word) :
    EncodingForm.Statement (.code2rh code) :=
  fun p => inTable_op p .code2rh _ (reqOp_packReq _ _ _)

theorem EncodingForm.c2code : EncodingForm.Statement .c2code :=
  fun p => inTable_op p .c2code _ (reqOp_packReq _ _ _)

theorem EncodingForm.rh2code : EncodingForm.Statement .rh2code :=
  fun p => inTable_op p .rh2code _ (reqOp_packReq _ _ _)

theorem EncodingForm.stdec (w : Word) :
    EncodingForm.Statement (.stdec w) :=
  fun p => inTable_op p .stdec _ (reqOp_packReq _ _ _)

theorem EncodingForm.cmdenc (cls : BitVec 4) (res : BitVec 2) (cad : BitVec 3) (thr : BitVec 2) :
    EncodingForm.Statement (.cmdenc cls res cad thr) :=
  fun p => inTable_op p .cmdenc _ (reqOp_packReq _ _ _)

theorem EncodingForm.alpack : EncodingForm.Statement .alpack :=
  fun p => inTable_op p .alpack _ (reqOp_packReq _ _ _)

theorem EncodingForm.alunpack (w : Word) :
    EncodingForm.Statement (.alunpack w) :=
  fun p => inTable_op p .alunpack _ (reqOp_packReq _ _ _)

theorem EncodingForm.singleShot (res : BitVec 2) (conv : Bool) :
    EncodingForm.Statement (.singleShot res conv) :=
  fun p => inTable_op p .singleShot _ (reqOp_packReq _ _ _)

theorem EncodingForm.startPeriodic (cad : BitVec 3) (res : BitVec 2) :
    EncodingForm.Statement (.startPeriodic cad res) :=
  fun p => inTable_op p .startPeriodic _ (reqOp_packReq _ _ _)

theorem EncodingForm.fetch (conv : Bool) :
    EncodingForm.Statement (.fetch conv) :=
  fun p => inTable_op p .fetch _ (reqOp_packReq _ _ _)

theorem EncodingForm.brk : EncodingForm.Statement .brk :=
  fun p => inTable_op p .brk _ (reqOp_packReq _ _ _)

theorem EncodingForm.reset : EncodingForm.Statement .reset :=
  fun p => inTable_op p .reset _ (reqOp_packReq _ _ _)

theorem EncodingForm.heaterOn : EncodingForm.Statement .heaterOn :=
  fun p => inTable_op p .heaterOn _ (reqOp_packReq _ _ _)

theorem EncodingForm.heaterOff : EncodingForm.Statement .heaterOff :=
  fun p => inTable_op p .heaterOff _ (reqOp_packReq _ _ _)

theorem EncodingForm.statusRead : EncodingForm.Statement .statusRead :=
  fun p => inTable_op p .statusRead _ (reqOp_packReq _ _ _)

theorem EncodingForm.statusFresh : EncodingForm.Statement .statusFresh :=
  fun p => inTable_op p .statusFresh _ (reqOp_packReq _ _ _)

theorem EncodingForm.clearStatus : EncodingForm.Statement .clearStatus :=
  fun p => inTable_op p .clearStatus _ (reqOp_packReq _ _ _)

theorem EncodingForm.alertRead (thr : BitVec 2) :
    EncodingForm.Statement (.alertRead thr) :=
  fun p => inTable_op p .alertRead _ (reqOp_packReq _ _ _)

theorem EncodingForm.alertWrite (thr : BitVec 2) :
    EncodingForm.Statement (.alertWrite thr) :=
  fun p => inTable_op p .alertWrite _ (reqOp_packReq _ _ _)

theorem EncodingForm.isAlertPending : EncodingForm.Statement .isAlertPending :=
  fun p => inTable_op p .isAlertPending _ (reqOp_packReq _ _ _)

theorem EncodingForm.isHeaterOn : EncodingForm.Statement .isHeaterOn :=
  fun p => inTable_op p .isHeaterOn _ (reqOp_packReq _ _ _)

theorem EncodingForm.isHumidityAlert : EncodingForm.Statement .isHumidityAlert :=
  fun p => inTable_op p .isHumidityAlert _ (reqOp_packReq _ _ _)

theorem EncodingForm.isTemperatureAlert : EncodingForm.Statement .isTemperatureAlert :=
  fun p => inTable_op p .isTemperatureAlert _ (reqOp_packReq _ _ _)

theorem EncodingForm.isResetDetected : EncodingForm.Statement .isResetDetected :=
  fun p => inTable_op p .isResetDetected _ (reqOp_packReq _ _ _)

theorem EncodingForm.isCommandFailed : EncodingForm.Statement .isCommandFailed :=
  fun p => inTable_op p .isCommandFailed _ (reqOp_packReq _ _ _)

theorem EncodingForm.isWriteCrcFailed : EncodingForm.Statement .isWriteCrcFailed :=
  fun p => inTable_op p .isWriteCrcFailed _ (reqOp_packReq _ _ _)

theorem EncodingForm.cmdSsLow : EncodingForm.Statement .cmdSsLow :=
  fun p => inTable_cmd p (.single .low)

theorem EncodingForm.cmdSsMedium : EncodingForm.Statement .cmdSsMedium :=
  fun p => inTable_cmd p (.single .medium)

theorem EncodingForm.cmdSsHigh : EncodingForm.Statement .cmdSsHigh :=
  fun p => inTable_cmd p (.single .high)

theorem EncodingForm.cmdPer05Low : EncodingForm.Statement .cmdPer05Low :=
  fun p => inTable_cmd p (.periodic .half .low)

theorem EncodingForm.cmdPer05Medium : EncodingForm.Statement .cmdPer05Medium :=
  fun p => inTable_cmd p (.periodic .half .medium)

theorem EncodingForm.cmdPer05High : EncodingForm.Statement .cmdPer05High :=
  fun p => inTable_cmd p (.periodic .half .high)

theorem EncodingForm.cmdPer1Low : EncodingForm.Statement .cmdPer1Low :=
  fun p => inTable_cmd p (.periodic .one .low)

theorem EncodingForm.cmdPer1Medium : EncodingForm.Statement .cmdPer1Medium :=
  fun p => inTable_cmd p (.periodic .one .medium)

theorem EncodingForm.cmdPer1High : EncodingForm.Statement .cmdPer1High :=
  fun p => inTable_cmd p (.periodic .one .high)

theorem EncodingForm.cmdPer2Low : EncodingForm.Statement .cmdPer2Low :=
  fun p => inTable_cmd p (.periodic .two .low)

theorem EncodingForm.cmdPer2Medium : EncodingForm.Statement .cmdPer2Medium :=
  fun p => inTable_cmd p (.periodic .two .medium)

theorem EncodingForm.cmdPer2High : EncodingForm.Statement .cmdPer2High :=
  fun p => inTable_cmd p (.periodic .two .high)

theorem EncodingForm.cmdPer4Low : EncodingForm.Statement .cmdPer4Low :=
  fun p => inTable_cmd p (.periodic .four .low)

theorem EncodingForm.cmdPer4Medium : EncodingForm.Statement .cmdPer4Medium :=
  fun p => inTable_cmd p (.periodic .four .medium)

theorem EncodingForm.cmdPer4High : EncodingForm.Statement .cmdPer4High :=
  fun p => inTable_cmd p (.periodic .four .high)

theorem EncodingForm.cmdPer10Low : EncodingForm.Statement .cmdPer10Low :=
  fun p => inTable_cmd p (.periodic .ten .low)

theorem EncodingForm.cmdPer10Medium : EncodingForm.Statement .cmdPer10Medium :=
  fun p => inTable_cmd p (.periodic .ten .medium)

theorem EncodingForm.cmdPer10High : EncodingForm.Statement .cmdPer10High :=
  fun p => inTable_cmd p (.periodic .ten .high)

theorem EncodingForm.cmdFetch : EncodingForm.Statement .cmdFetch :=
  fun p => inTable_cmd p (.fixed .fetch)

theorem EncodingForm.cmdBreak : EncodingForm.Statement .cmdBreak :=
  fun p => inTable_cmd p (.fixed .brk)

theorem EncodingForm.cmdReset : EncodingForm.Statement .cmdReset :=
  fun p => inTable_cmd p (.fixed .reset)

theorem EncodingForm.cmdHeaterOn : EncodingForm.Statement .cmdHeaterOn :=
  fun p => inTable_cmd p (.fixed .heaterOn)

theorem EncodingForm.cmdHeaterOff : EncodingForm.Statement .cmdHeaterOff :=
  fun p => inTable_cmd p (.fixed .heaterOff)

theorem EncodingForm.cmdStatusRead : EncodingForm.Statement .cmdStatusRead :=
  fun p => inTable_cmd p (.fixed .statusRead)

theorem EncodingForm.cmdStatusClear : EncodingForm.Statement .cmdStatusClear :=
  fun p => inTable_cmd p (.fixed .statusClear)

theorem EncodingForm.cmdAlertRdHighSet : EncodingForm.Statement .cmdAlertRdHighSet :=
  fun p => inTable_cmd p (.alertRead .highSet)

theorem EncodingForm.cmdAlertRdHighClear : EncodingForm.Statement .cmdAlertRdHighClear :=
  fun p => inTable_cmd p (.alertRead .highClear)

theorem EncodingForm.cmdAlertRdLowClear : EncodingForm.Statement .cmdAlertRdLowClear :=
  fun p => inTable_cmd p (.alertRead .lowClear)

theorem EncodingForm.cmdAlertRdLowSet : EncodingForm.Statement .cmdAlertRdLowSet :=
  fun p => inTable_cmd p (.alertRead .lowSet)

theorem EncodingForm.cmdAlertWrHighSet : EncodingForm.Statement .cmdAlertWrHighSet :=
  fun p => inTable_cmd p (.alertWrite .highSet)

theorem EncodingForm.cmdAlertWrHighClear : EncodingForm.Statement .cmdAlertWrHighClear :=
  fun p => inTable_cmd p (.alertWrite .highClear)

theorem EncodingForm.cmdAlertWrLowClear : EncodingForm.Statement .cmdAlertWrLowClear :=
  fun p => inTable_cmd p (.alertWrite .lowClear)

theorem EncodingForm.cmdAlertWrLowSet : EncodingForm.Statement .cmdAlertWrLowSet :=
  fun p => inTable_cmd p (.alertWrite .lowSet)

end Sys2Proof.Laws
end

