-- ==== Sys2Proof/Laws/Tables.lean ====
section
/-! SUPPORT. What the look-ups of the configuration record do: the numbers of the operations, the words
of the commands, the codes of the errors. -/

namespace Sys2Proof.Machine
open Sys2Proof.Config Sys2Proof.Safety

theorem mem_allOps (o : Op) : o ∈ allOps := by cases o <;> decide

theorem mem_periodicCmds (c : Cadence) (r : Resolution) : Cmd.periodic c r ∈ periodicCmds := by
  cases c <;> cases r <;> decide

theorem mem_allCmds (n : Cmd) : n ∈ allCmds := by
  rcases n with r | ⟨c, r⟩ | f | t | t
  · cases r <;> decide
  · exact List.mem_append_left _ (mem_periodicCmds c r)
  · cases f <;> decide
  · cases t <;> decide
  · cases t <;> decide

theorem mem_errorCodes (e : ErrCode) : e ∈ errorCodes := by cases e <;> decide

/-- Where a look-up table has no value twice, a value is found under its own name. -/
theorem find?_of_nodup {α β : Type} [DecidableEq β] {l : List α} {f : α → β} {a : α}
    (hn : (l.map f).Nodup) (ha : a ∈ l) : l.find? (fun x => f x == f a) = some a := by
  induction l with
  | nil => cases ha
  | cons x xs ih =>
    rw [List.map_cons, List.nodup_cons] at hn
    rcases List.mem_cons.mp ha with rfl | h
    · simp
    · have hx : f x ≠ f a := fun he => hn.1 (he ▸ List.mem_map_of_mem h)
      simp [hx, ih hn.2 h]

/-- What `opOfNumber?` answers has the number it was asked for. -/
theorem opNumber_of_opOfNumber? {h : OpNumbers} {b : Byte} {o : Op} (hb : opOfNumber? h b = some o) :
    opNumber h o = b := by
  simpa using List.find?_some hb

/-- A number is read back where the numbers are distinct (R72). -/
theorem opOfNumber?_opNumber {p : Params} (hp : EncodingsDistinct p) (o : Op) :
    opOfNumber? p.hostop (opNumber p.hostop o) = some o :=
  find?_of_nodup hp.1 (mem_allOps o)

/-- What `commandName?` answers has the word it was asked for. -/
theorem cmdWord_of_commandName? {t : CmdTable} {c : Word} {n : Cmd} (h : commandName? t c = some n) :
    cmdWord t n = c := by
  simpa using List.find?_some h

/-- A command word is read back where the words are distinct (R163). -/
theorem commandName?_cmdWord {p : Params} (hp : EncodingsDistinct p) (n : Cmd) :
    commandName? p.cmd (cmdWord p.cmd n) = some n :=
  find?_of_nodup hp.2 (mem_allCmds n)

/-- The opcode of a periodic start is a periodic-start opcode (R166). -/
theorem isPeriodic_cmdPeriodic (t : CmdTable) (c : Cadence) (r : Resolution) :
    isPeriodic t (cmdPeriodic t c r) = true := by
  simp only [isPeriodic, List.contains_eq_mem, decide_eq_true_eq]
  exact List.mem_map_of_mem (f := cmdWord t) (mem_periodicCmds c r)

/-- No error has the code of success (R250). -/
theorem errCode_ne_zero {p : Params} (hp : ErrCodesOk p) (e : ErrCode) : errCode p.errCode e ≠ 0#4 :=
  fun h => (List.nodup_cons.mp hp).1 (h ▸ List.mem_map_of_mem (mem_errorCodes e))

/-- Distinct errors have distinct codes (R250). -/
theorem errCode_injective {p : Params} (hp : ErrCodesOk p) {e e' : ErrCode}
    (h : errCode p.errCode e = errCode p.errCode e') : e = e' :=
  List.inj_on_of_nodup_map (List.nodup_cons.mp hp).2 (mem_errorCodes e) (mem_errorCodes e') h

end Sys2Proof.Machine
end

