-- ==== Sys2Proof/Tests/Slice0.lean ====
section
/-! SUPPORT. The session's own tests. The expected values are those of spec/95_test_vectors.md, or are
read off the encodings of spec/30_encoding.md; the witnesses at the end meet the hypotheses of the
statements of Certificates/Slice0/Obligations.lean. -/

namespace Sys2Proof.Tests
open Sys2Proof.Machine Sys2Proof.Config Sys2Proof.Safety

/-! ## Helpers -/

/-- Reset, with an environment that answers as listed. -/
def scripted (ws : List WriteAnswer) (rs : List ReadAnswer) (gs : List Signal) : State :=
  { State.reset with writeScript := ws.map some, readScript := rs.map some, waitScript := gs }

/-- `s` with an active session. -/
def inSession (c : Cadence) (r : Resolution) (s : State) : State :=
  { s with
    lastCmd := some (cmdPeriodic s.params.cmd c r), cadence := cadenceBits c, resolution := resolutionBits r
    fsm := .continuousRunning }

/-- A field of the next state of an instruction. -/
def after {α : Type} (f : State → α) (i : Instr) (s : State) : Option α :=
  match exec i s with
  | .next t => some (f t)
  | .fault _ => none
  | .refused _ => none

/-- An instruction's next state, with what it is asked to satisfy. -/
def ends (p : State → Bool) (i : Instr) (s : State) : Bool :=
  match exec i s with
  | .next t => p t
  | .fault _ => false
  | .refused _ => false

/-- The next state of a step, with what it is asked to satisfy. -/
def stepEnds (p : State → Bool) (s : State) : Bool :=
  match step s with
  | .next t => p t
  | .fault _ => false
  | .refused _ => false

/-- A good answer to a status or alert read: `80 10 E1` (section 2.4). -/
def goodBlock : ReadAnswer := .ok [0x80#8, 0x10#8, 0xE1#8]

/-- A good answer to a measurement read: `60 00 D4 40 00 08` (S9). -/
def goodFrame : ReadAnswer := .ok [0x60#8, 0x00#8, 0xD4#8, 0x40#8, 0x00#8, 0x08#8]

/-! ## WellFormed: each check refuses an ill-formed term -/

theorem test_wf_single_shot_res : wellFormed (.singleShot 3#2 true) = false := by decide
theorem test_wf_single_shot_legal : WellFormed (.singleShot 2#2 true) := by decide
theorem test_wf_start_periodic_res : wellFormed (.startPeriodic 0#3 3#2) = false := by decide
theorem test_wf_start_periodic_cad : wellFormed (.startPeriodic 5#3 0#2) = false := by decide
theorem test_wf_start_periodic_legal : WellFormed (.startPeriodic 4#3 2#2) := by decide
theorem test_wf_cmdenc_class : wellFormed (.cmdenc 11#4 0#2 0#3 0#2) = false := by decide
theorem test_wf_cmdenc_single_res : wellFormed (.cmdenc 0#4 3#2 0#3 0#2) = false := by decide
theorem test_wf_cmdenc_single_cad : wellFormed (.cmdenc 0#4 0#2 1#3 0#2) = false := by decide
theorem test_wf_cmdenc_single_thr : wellFormed (.cmdenc 0#4 0#2 0#3 1#2) = false := by decide
theorem test_wf_cmdenc_periodic_cad : wellFormed (.cmdenc 1#4 0#2 5#3 0#2) = false := by decide
theorem test_wf_cmdenc_periodic_thr : wellFormed (.cmdenc 1#4 0#2 0#3 1#2) = false := by decide
theorem test_wf_cmdenc_fixed_res : wellFormed (.cmdenc 2#4 1#2 0#3 0#2) = false := by decide
theorem test_wf_cmdenc_alert_cad : wellFormed (.cmdenc 9#4 0#2 1#3 3#2) = false := by decide
theorem test_wf_cmdenc_legal : WellFormed (.cmdenc 10#4 0#2 0#3 3#2) := by decide

/-! ## Decode: the word of every constructor, written out from R70 to R72 and R80 to R112 -/

theorem test_decode_crc8 : decode defaultParams (.request 0x01FFBEEF#32) = .ok (.crc8 0xFF#8 0xBE#8 0xEF#8) := by decide
theorem test_decode_code2c : decode defaultParams (.request 0x02006000#32) = .ok (.code2c 0x6000#16) := by decide
theorem test_decode_code2rh : decode defaultParams (.request 0x03004000#32) = .ok (.code2rh 0x4000#16) := by decide
theorem test_decode_c2code : decode defaultParams (.request 0x04000000#32) = .ok .c2code := by decide
theorem test_decode_rh2code : decode defaultParams (.request 0x05000000#32) = .ok .rh2code := by decide
theorem test_decode_stdec : decode defaultParams (.request 0x0600A010#32) = .ok (.stdec 0xA010#16) := by decide
theorem test_decode_cmdenc : decode defaultParams (.request 0x07060001#32) = .ok (.cmdenc 1#4 2#2 1#3 0#2) := by decide
theorem test_decode_alpack : decode defaultParams (.request 0x08000000#32) = .ok .alpack := by decide
theorem test_decode_alunpack : decode defaultParams (.request 0x09007EDB#32) = .ok (.alunpack 0x7EDB#16) := by decide
theorem test_decode_single_shot : decode defaultParams (.request 0x10820000#32) = .ok (.singleShot 2#2 true) := by decide
theorem test_decode_start_periodic : decode defaultParams (.request 0x11120000#32) = .ok (.startPeriodic 4#3 2#2) := by decide
theorem test_decode_fetch : decode defaultParams (.request 0x12800000#32) = .ok (.fetch true) := by decide
theorem test_decode_break : decode defaultParams (.request 0x13000000#32) = .ok .brk := by decide
theorem test_decode_reset : decode defaultParams (.request 0x14000000#32) = .ok .reset := by decide
theorem test_decode_heater_on : decode defaultParams (.request 0x15000000#32) = .ok .heaterOn := by decide
theorem test_decode_heater_off : decode defaultParams (.request 0x16000000#32) = .ok .heaterOff := by decide
theorem test_decode_status_read : decode defaultParams (.request 0x17000000#32) = .ok .statusRead := by decide
theorem test_decode_status_fresh : decode defaultParams (.request 0x18000000#32) = .ok .statusFresh := by decide
theorem test_decode_clear_status : decode defaultParams (.request 0x19000000#32) = .ok .clearStatus := by decide
theorem test_decode_alert_read : decode defaultParams (.request 0x1A200000#32) = .ok (.alertRead 1#2) := by decide
theorem test_decode_alert_write : decode defaultParams (.request 0x1B600000#32) = .ok (.alertWrite 3#2) := by decide
theorem test_decode_is_alert_pending : decode defaultParams (.request 0x20000000#32) = .ok .isAlertPending := by decide
theorem test_decode_is_heater_on : decode defaultParams (.request 0x21000000#32) = .ok .isHeaterOn := by decide
theorem test_decode_is_humidity_alert : decode defaultParams (.request 0x22000000#32) = .ok .isHumidityAlert := by decide
theorem test_decode_is_temperature_alert : decode defaultParams (.request 0x23000000#32) = .ok .isTemperatureAlert := by decide
theorem test_decode_is_reset_detected : decode defaultParams (.request 0x24000000#32) = .ok .isResetDetected := by decide
theorem test_decode_is_command_failed : decode defaultParams (.request 0x25000000#32) = .ok .isCommandFailed := by decide
theorem test_decode_is_write_crc_failed : decode defaultParams (.request 0x26000000#32) = .ok .isWriteCrcFailed := by decide
theorem test_decode_cmdSsLow : decode defaultParams (.command 0x2416#16) = .ok .cmdSsLow := by decide
theorem test_decode_cmdSsMedium : decode defaultParams (.command 0x240B#16) = .ok .cmdSsMedium := by decide
theorem test_decode_cmdSsHigh : decode defaultParams (.command 0x2400#16) = .ok .cmdSsHigh := by decide
theorem test_decode_cmdPer05Low : decode defaultParams (.command 0x202F#16) = .ok .cmdPer05Low := by decide
theorem test_decode_cmdPer05Medium : decode defaultParams (.command 0x2024#16) = .ok .cmdPer05Medium := by decide
theorem test_decode_cmdPer05High : decode defaultParams (.command 0x2032#16) = .ok .cmdPer05High := by decide
theorem test_decode_cmdPer1Low : decode defaultParams (.command 0x212D#16) = .ok .cmdPer1Low := by decide
theorem test_decode_cmdPer1Medium : decode defaultParams (.command 0x2126#16) = .ok .cmdPer1Medium := by decide
theorem test_decode_cmdPer1High : decode defaultParams (.command 0x2130#16) = .ok .cmdPer1High := by decide
theorem test_decode_cmdPer2Low : decode defaultParams (.command 0x222B#16) = .ok .cmdPer2Low := by decide
theorem test_decode_cmdPer2Medium : decode defaultParams (.command 0x2220#16) = .ok .cmdPer2Medium := by decide
theorem test_decode_cmdPer2High : decode defaultParams (.command 0x2236#16) = .ok .cmdPer2High := by decide
theorem test_decode_cmdPer4Low : decode defaultParams (.command 0x2329#16) = .ok .cmdPer4Low := by decide
theorem test_decode_cmdPer4Medium : decode defaultParams (.command 0x2322#16) = .ok .cmdPer4Medium := by decide
theorem test_decode_cmdPer4High : decode defaultParams (.command 0x2334#16) = .ok .cmdPer4High := by decide
theorem test_decode_cmdPer10Low : decode defaultParams (.command 0x272A#16) = .ok .cmdPer10Low := by decide
theorem test_decode_cmdPer10Medium : decode defaultParams (.command 0x2721#16) = .ok .cmdPer10Medium := by decide
theorem test_decode_cmdPer10High : decode defaultParams (.command 0x2737#16) = .ok .cmdPer10High := by decide
theorem test_decode_cmdFetch : decode defaultParams (.command 0xE000#16) = .ok .cmdFetch := by decide
theorem test_decode_cmdBreak : decode defaultParams (.command 0x3093#16) = .ok .cmdBreak := by decide
theorem test_decode_cmdReset : decode defaultParams (.command 0x30A2#16) = .ok .cmdReset := by decide
theorem test_decode_cmdHeaterOn : decode defaultParams (.command 0x306D#16) = .ok .cmdHeaterOn := by decide
theorem test_decode_cmdHeaterOff : decode defaultParams (.command 0x3066#16) = .ok .cmdHeaterOff := by decide
theorem test_decode_cmdStatusRead : decode defaultParams (.command 0xF32D#16) = .ok .cmdStatusRead := by decide
theorem test_decode_cmdStatusClear : decode defaultParams (.command 0x3041#16) = .ok .cmdStatusClear := by decide
theorem test_decode_cmdAlertRdHighSet : decode defaultParams (.command 0xE11F#16) = .ok .cmdAlertRdHighSet := by decide
theorem test_decode_cmdAlertRdHighClear : decode defaultParams (.command 0xE114#16) = .ok .cmdAlertRdHighClear := by decide
theorem test_decode_cmdAlertRdLowClear : decode defaultParams (.command 0xE109#16) = .ok .cmdAlertRdLowClear := by decide
theorem test_decode_cmdAlertRdLowSet : decode defaultParams (.command 0xE102#16) = .ok .cmdAlertRdLowSet := by decide
theorem test_decode_cmdAlertWrHighSet : decode defaultParams (.command 0x611D#16) = .ok .cmdAlertWrHighSet := by decide
theorem test_decode_cmdAlertWrHighClear : decode defaultParams (.command 0x6116#16) = .ok .cmdAlertWrHighClear := by decide
theorem test_decode_cmdAlertWrLowClear : decode defaultParams (.command 0x610B#16) = .ok .cmdAlertWrLowClear := by decide
theorem test_decode_cmdAlertWrLowSet : decode defaultParams (.command 0x6100#16) = .ok .cmdAlertWrLowSet := by decide

/-- A table word of 16 bits is a command word, one of 32 bits a request. -/
theorem test_decodeTableWord :
    decodeTableWord 16 0x30A2 = some .cmdReset ∧ decodeTableWord 32 0x14000000 = some .reset := by decide

/-- The next thing the block runs is the placed word. -/
theorem test_withFetchWord :
    (match step (State.reset.withFetchWord 32 0x01FFBEEF) with
      | .next t => some t.rCrc
      | .fault _ => none
      | .refused _ => none) = some 0x92#8 := by decide +kernel

/-! ## Steps: the worked examples of section 1 and the vectors of section 2 -/

/-- Section 2.1. -/
theorem test_crc8 : after (·.rCrc) (.crc8 0xFF#8 0x60#8 0x00#8) State.reset = some 0xD4#8 := by decide +kernel

/-- Section 2.2: a negative result, and its binary32. -/
theorem test_code2c :
    after (fun t => (t.rTcenti.toInt, t.rTf32)) (.code2c 2#16) State.reset =
      some (-4499, 0xC233F5C3#32) := by decide

theorem test_code2rh :
    after (fun t => (t.rRhcenti, t.rRhf32)) (.code2rh 0x6A98#16) State.reset =
      some (4164#16, 0x42268F5C#32) := by decide

/-- Section 2.2: truncation, not rounding, and the negative zero. -/
theorem test_c2code_truncates :
    after (·.rTcode) .c2code { State.reset with a0 := 0x80000000#32 } = some 16851#16 := by decide

theorem test_c2code_nan :
    after (·.rErr) .c2code { State.reset with a0 := 0x7FC00000#32 } = some 15#4 := by decide

theorem test_rh2code_truncates :
    after (·.rRhcode) .rh2code { State.reset with a0 := 0x42480000#32 } = some 0x7FFF#16 := by decide

theorem test_rh2code_negative :
    after (·.rErr) .rh2code { State.reset with a0 := 0x80000001#32 } = some 15#4 := by decide

/-- S3. -/
theorem test_stdec : after (·.rFlags) (.stdec 0xA010#16) State.reset = some 0x13#7 := by decide

/-- Section 2.3. -/
theorem test_cmdenc : after (·.rCmd) (.cmdenc 10#4 0#2 0#3 2#2) State.reset = some 0x610B#16 := by decide

/-- S8: 30.0 degrees and 50.0 percent. -/
theorem test_alpack :
    after (·.rWord) .alpack { State.reset with a0 := 0x7FFF6DB6#32 } = some 0x7EDB#16 := by decide

theorem test_alunpack :
    after (fun t => (t.rTcode, t.rRhcode)) (.alunpack 0x7EDB#16) State.reset =
      some (0x6D80#16, 0x7E00#16) := by decide

/-- S9, with the numbers the rules give. -/
theorem test_single_shot :
    after (fun t => (t.rErr, t.rTcode, t.rRhcode, t.rTcenti, t.rRhf32)) (.singleShot 0#2 true)
        (scripted [.ok] [goodFrame] []) =
      some (0#4, 0x6000#16, 0x4000#16, 2063#16, 0x41C80000#32) := by decide +kernel

/-- Section 2.5: a bad humidity block. -/
theorem test_single_shot_checksum :
    after (fun t => (t.rErr, t.rTcode)) (.singleShot 0#2 true)
        (scripted [.ok] [.ok [0x60#8, 0x00#8, 0xD4#8, 0x40#8, 0x01#8, 0x08#8]] []) =
      some (1#4, 0#16) := by decide +kernel

/-- Section 2.5: START_PERIODIC `cad = 1`, `res = 2`. -/
theorem test_start_periodic :
    after (fun t => (t.cadence, t.resolution, t.lastCmd, t.fsm, t.trace)) (.startPeriodic 1#3 2#2)
        (scripted [.ok] [] []) =
      some (1#3, 2#2, some 0x2130#16, .continuousRunning,
        [.write [0x21#8, 0x30#8] .ok, .waited 15500 15500 .elapsed]) := by decide

/-- S4. -/
theorem test_fetch_no_session :
    after (fun t => (t.rErr, t.trace)) (.fetch false) State.reset = some (4#4, []) := by decide

/-- S5: four refused reads at 1 mps. -/
theorem test_fetch_retries :
    after (fun t => (t.rErr, t.rTcode, t.retry, t.waitUs)) (.fetch false)
        (inSession .one .high (scripted [.ok] [.nack, .nack, .nack, .nack, goodFrame]
          [.quiet, .quiet, .quiet, .quiet])) =
      some (0#4, 0x6000#16, 1#3, 100000#21) := by decide +kernel

/-- Section 2.5 and R207: BREAK is recorded and ends the session. -/
theorem test_break :
    after (fun t => (t.lastCmd, t.fsm)) .brk (inSession .one .high (scripted [.ok] [] [])) =
      some (some 0x3093#16, .idle) := by decide

/-- R208: the wait after the command, and the cache that stays. -/
theorem test_reset :
    after (fun t => (t.stCache, t.trace)) .reset { scripted [.ok] [] [] with stCache := some 0x8010#16 } =
      some (some 0x8010#16, [.write [0x30#8, 0xA2#8] .ok, .waited 1500 1500 .elapsed]) := by decide

theorem test_heater_on :
    after (fun t => (t.stCache, t.trace)) .heaterOn
        { scripted [.ok] [] [] with stCache := some 0x8010#16 } =
      some (none, [.write [0x30#8, 0x6D#8] .ok]) := by decide

theorem test_heater_off :
    after (·.trace) .heaterOff (scripted [.ok] [] []) = some [.write [0x30#8, 0x66#8] .ok] := by decide

theorem test_clear_status :
    after (·.trace) .clearStatus (scripted [.nack] [] []) = some [.write [0x30#8, 0x41#8] .nack] := by decide

/-- R174: a hit makes no transaction, a miss makes two. -/
theorem test_status_read_hit :
    after (fun t => (t.rFlags, t.trace)) .statusRead { State.reset with stCache := some 0x2000#16 } =
      some (0x02#7, []) := by decide

theorem test_status_read_miss :
    after (fun t => (t.rFlags, t.stCache, t.trace)) .statusRead (scripted [.ok] [goodBlock] []) =
      some (0x11#7, some 0x8010#16,
        [.write [0xF3#8, 0x2D#8] .ok, .read 3 goodBlock]) := by decide +kernel

theorem test_status_fresh :
    after (·.rWord) .statusFresh { scripted [.ok] [goodBlock] [] with stCache := some 0x2000#16 } =
      some 0x8010#16 := by decide +kernel

/-- S8 read back: 29.85 degrees and 49.22 percent. -/
theorem test_alert_read :
    after (fun t => (t.rTcode, t.rRhcode, t.rTcenti, t.rRhcenti)) (.alertRead 0#2)
        (scripted [.ok] [.ok [0x7E#8, 0xDB#8, 0x39#8]] []) =
      some (0x6D80#16, 0x7E00#16, 2985#16, 4922#16) := by decide +kernel

/-- S8: the frame `61 1D 7E DB 39`. -/
theorem test_alert_write :
    after (·.trace) (.alertWrite 0#2)
        { scripted [.ok] [] [] with a0 := 0x41F00000#32, a1 := 0x42480000#32 } =
      some [.write [0x61#8, 0x1D#8, 0x7E#8, 0xDB#8, 0x39#8] .ok, .waited 1000 1000 .elapsed] := by decide +kernel

/-- R180 to R186 on the words of section 2.4, one flag each. -/
theorem test_predicates :
    after (·.rBool) .isAlertPending (scripted [.ok] [.ok [0x80#8, 0x00#8, 0xA2#8]] []) = some true ∧
    after (·.rBool) .isHeaterOn (scripted [.ok] [.ok [0x20#8, 0x00#8, 0x5D#8]] []) = some true ∧
    after (·.rBool) .isHumidityAlert (scripted [.ok] [.ok [0x08#8, 0x00#8, 0xB6#8]] []) = some true ∧
    after (·.rBool) .isTemperatureAlert (scripted [.ok] [.ok [0x04#8, 0x00#8, 0x02#8]] []) = some true ∧
    after (·.rBool) .isResetDetected (scripted [.ok] [.ok [0x00#8, 0x10#8, 0xC2#8]] []) = some true ∧
    after (·.rBool) .isCommandFailed (scripted [.ok] [.ok [0x00#8, 0x02#8, 0xE3#8]] []) = some true ∧
    after (·.rBool) .isWriteCrcFailed (scripted [.ok] [.ok [0x00#8, 0x01#8, 0xB0#8]] []) = some true := by
  decide +kernel

/-- Section 2.4: none of the seven in `53 EC`. -/
theorem test_predicates_clear :
    predicateForms.all (fun p =>
      after (·.rBool) p.1 (scripted [.ok] [.ok [0x53#8, 0xEC#8, 0xF7#8]] []) == some false) = true := by
  decide +kernel

/-- The bytes of each command word that waits for nothing and reads nothing, and of the periodic ones. -/
theorem test_command_words :
    [Instr.cmdPer05Low, .cmdPer1Medium, .cmdPer2High, .cmdPer4Low, .cmdPer10Medium].map (fun i =>
        (after (·.lastCmd) i (scripted [.ok] [] [])).join) =
      [some 0x202F#16, some 0x2126#16, some 0x2236#16, some 0x2329#16, some 0x2721#16] ∧
    [Instr.cmdHeaterOn, .cmdHeaterOff, .cmdStatusClear, .cmdBreak].map (fun i =>
        after (·.trace) i (scripted [.ok] [] [])) =
      [some [.write [0x30#8, 0x6D#8] .ok], some [.write [0x30#8, 0x66#8] .ok],
        some [.write [0x30#8, 0x41#8] .ok], some [.write [0x30#8, 0x93#8] .ok]] := by decide

/-- A read of the wrong length is an input/output error (log 3). -/
theorem test_short_read :
    after (·.rErr) .statusFresh (scripted [.ok] [.ok [0x80#8]] []) = some 3#4 := by decide

/-! ## The other values of the parameters -/

/-- Two of the codes that U6 names, exact and in binary32: one hundredth apart. -/
theorem test_binary32 :
    [455#16, 12652#16].map (fun c => (tCenti .exact c, tCenti .binary32 c)) =
      [(-4379, -4378), (-1121, -1122)] := by decide +kernel

/-- Least significant byte first (R55): the word of a block, and the frame W5 with its checksum. -/
theorem test_word_order :
    blockWord { defaultParams with wordOrder := .lsbFirst } [0xBE#8, 0xEF#8, 0x92#8] 0 = some 0xEFBE#16 ∧
      alertFrame { defaultParams with wordOrder := .lsbFirst } 0x611D#16 0xEFBE#16 =
        [0x61#8, 0x1D#8, 0xBE#8, 0xEF#8, 0x92#8] := by decide +kernel

/-- AllButFetch (R26): a single shot is recorded and ends the session in the block's view. -/
theorem test_all_but_fetch :
    after (fun t => (t.lastCmd, t.fsm)) (.singleShot 2#2 false)
        (let s := inSession .one .high (scripted [.ok] [goodFrame] []);
          { s with params := { defaultParams with lcPolicy := .allButFetch } }) =
      some (some 0x2400#16, .idle) := by decide +kernel

/-! ## A transport that never returns (R307, U9) -/

/-- In the read of a single shot: BUSY stays 1 in SingleShotPending, and the step after it changes
nothing. -/
theorem test_hang :
    after (fun t => (t.busy, t.fsm, t.trace, stepEnds (fun u => u == t) t)) (.singleShot 0#2 false)
        { scripted [.ok] [] [] with readScript := [none] } =
      some (true, .singleShotPending,
        [.write [0x24#8, 0x16#8] .ok, .waited 4500 4500 .elapsed], true) := by decide +kernel

/-! ## Witnesses: for each statement with hypotheses, a state and operands that meet them -/

theorem witness_DecodeOfEncode :
    EncodingsDistinct defaultParams ∧
    WellFormed (.crc8 0xFF#8 0xBE#8 0xEF#8) ∧ WellFormed (.cmdenc 1#4 2#2 4#3 0#2) ∧
      WellFormed (.cmdenc 10#4 0#2 0#3 3#2) ∧ WellFormed (.startPeriodic 4#3 2#2) ∧
      WellFormed .cmdAlertWrLowSet := by decide +kernel

theorem witness_DecodeOnlyEncodings :
    decode defaultParams (.request 0x11120000#32) = .ok (.startPeriodic 4#3 2#2) ∧
      decode defaultParams (.command 0x2416#16) = .ok .cmdSsLow := by decide

theorem witness_StepRunsDecoded :
    State.reset.busy = false ∧
      ({ State.reset with inputs := [.writeReq 0x13000000#32] }).inputs = [.writeReq 0x13000000#32] ∧
      decodeReq State.reset.params.hostop 0x13000000#32 = .ok .brk ∧
      ({ State.reset with inputs := [.emit (.fixed .brk)] }).inputs = [.emit (.fixed .brk)] ∧
      decode State.reset.params (.request 0x13000000#32) = .ok .brk ∧
      decode State.reset.params (.command 0x3093#16) = .ok .cmdBreak := by decide

theorem witness_IllegalRequestRefused :
    ({ State.reset with inputs := [.writeReq 0x10030000#32] }).busy = false ∧
      decodeReq State.reset.params.hostop 0x10030000#32 = .error .badResolution := by decide

theorem witness_OtherInputs :
    State.reset.inputs = [] ∧ State.reset.busy = false ∧
      ({ State.reset with inputs := [.writeA0 1#32] }).inputs = [.writeA0 1#32] ∧
      ({ State.reset with inputs := [.writeA1 1#32] }).inputs = [.writeA1 1#32] ∧
      ({ State.reset with inputs := [.writeA0 1#32], busy := true }).busy = true := by decide

theorem witness_TCentiFormula : (0#16 : Word).toNat ≤ (0xFFFF#16 : Word).toNat := by decide

theorem witness_RhCentiFormula : (0#16 : Word).toNat ≤ (0xFFFF#16 : Word).toNat := by decide

theorem witness_TCodeFormula :
    (0 < 1 ∧ (-45 : ℤ) * (1 : ℕ) ≤ -45 ∧ (-45 : ℤ) ≤ 130 * (1 : ℕ)) ∧
      (0 < 1 ∧ (-45 : ℤ) * (1 : ℕ) ≤ 130 ∧ (130 : ℤ) ≤ 130 * (1 : ℕ)) := by decide

theorem witness_RhCodeFormula :
    (0 < 1 ∧ (0 : ℤ) ≤ 0 ∧ (0 : ℤ) ≤ 100 * (1 : ℕ)) ∧
      (0 < 1 ∧ (0 : ℤ) ≤ 100 ∧ (100 : ℤ) ≤ 100 * (1 : ℕ)) := by decide

theorem witness_ValueRoundTripWithinHundredth :
    (0 < 100 ∧ (-45 : ℤ) * (100 : ℕ) ≤ -4500 ∧ (13000 : ℤ) ≤ 130 * (100 : ℕ)) ∧
      (0 < 100 ∧ (0 : ℤ) ≤ 0 ∧ (10000 : ℤ) ≤ 100 * (100 : ℕ)) := by decide

theorem witness_PhysicalFloatIsNearest :
    (-4500 : ℤ) ≤ -4500 ∧ (-4500 : ℤ) ≤ 13000 ∧ (13000 : ℤ) ≤ 13000 ∧
      f32Finite 0x7F7FFFFF#32 = true := by decide

/-- Both ends of the domain, and the patterns next to them, an infinity and a NaN. -/
theorem witness_InverseConversionsCompleteOrRefuse :
    f32Num 0xC2340000#32 = -45 * (f32Den : ℤ) ∧ f32Finite 0xC2340000#32 = true ∧
      f32Num 0x43020000#32 = 130 * (f32Den : ℤ) ∧ f32Finite 0x43020000#32 = true ∧
      f32Num 0xC2340001#32 < -45 * (f32Den : ℤ) ∧ 130 * (f32Den : ℤ) < f32Num 0x43020001#32 ∧
      f32Finite 0x7F800000#32 = false ∧ f32Finite 0x7FC00000#32 = false := by decide +kernel

/-- Both ends of the domain, the negative zero, and the patterns next to them. -/
theorem witness_InverseConversionsCompleteOrRefuse_humidity :
    f32Num 0x80000000#32 = 0 ∧ f32Finite 0x80000000#32 = true ∧
      f32Num 0x42C80000#32 = 100 * (f32Den : ℤ) ∧ f32Finite 0x42C80000#32 = true ∧
      f32Num 0x80000001#32 < 0 ∧ 100 * (f32Den : ℤ) < f32Num 0x42C80001#32 ∧
      f32Finite 0xFF800000#32 = false := by decide +kernel

theorem witness_ParameterConstraints :
    TableOk defaultParams ∧
      cmdPeriodic defaultParams.cmd .ten .high = cmdPeriodic defaultParams.cmd .ten .high := by
  decide +kernel

/-- The default set, and a set without the predicates. -/
theorem witness_StatusReadHit :
    (let s := { State.reset with stCache := some 0xFFFF#16 };
      s.stCache = some 0xFFFF#16 ∧ opOf .statusRead ∉ s.params.stInvalidators ∧
      Instr.statusRead ∈ statusReadForms) ∧
    (let s := { State.reset with
        stCache := some 0#16, params := { defaultParams with stInvalidators := [] } };
      s.stCache = some 0#16 ∧ opOf .isHeaterOn ∉ s.params.stInvalidators ∧
      (Instr.isHeaterOn, StatusFlag.heaterEnabled) ∈ predicateForms) := by decide

/-- STATUS_READ with nothing cached, STATUS_FRESH with a cached word. -/
theorem witness_StatusMissCompletes :
    let s := scripted [.ok] [goodBlock] [];
    Instr.statusRead ∈ statusReadForms ∧ started .statusRead s = none ∧
      Instr.statusFresh ∈ statusReadForms ∧
      started .statusFresh { s with stCache := some 1#16 } = none ∧
      s.writeScript = [some .ok] ∧
      s.readScript = [some (.ok (goodBlockBytes s.params 0x80#8 0x10#8))] := by decide +kernel

theorem witness_PredicatesComplete :
    let s := scripted [.ok] [goodBlock] [];
    (Instr.isWriteCrcFailed, StatusFlag.writeDataCrcFailed) ∈ predicateForms ∧
      started .isWriteCrcFailed { s with stCache := some 1#16 } = none ∧
      s.writeScript = [some .ok] ∧
      s.readScript = [some (.ok (goodBlockBytes s.params 0x80#8 0x10#8))] := by decide +kernel

theorem witness_StatusCommandsComplete :
    (Instr.clearStatus, FixedCmd.statusClear) ∈ statusCommandForms ∧
      (Instr.cmdHeaterOff, FixedCmd.heaterOff) ∈ statusCommandForms ∧
      (scripted [.ok] [] []).writeScript = [some .ok] := by decide

theorem witness_SingleShotCompletes :
    let s := scripted [.ok] [goodFrame] [];
    Instr.singleShot 2#2 true ∈ singleShotForms .high true ∧ Instr.cmdSsLow ∈ singleShotForms .low false ∧
      s.writeScript = [some .ok] ∧
      s.readScript = [some (.ok (goodFrameBytes s.params 0x60#8 0x00#8 0x40#8 0x00#8))] := by
  decide +kernel

theorem witness_StartPeriodicCompletes :
    Instr.startPeriodic 4#3 2#2 ∈ startPeriodicForms .ten .high ∧
      Instr.cmdPer05Low ∈ startPeriodicForms .half .low ∧
      (scripted [.ok] [] []).writeScript = [some .ok] := by decide

/-- `k = 0` and `k = 5`. -/
theorem witness_FetchCompletesAfterRetries :
    0 ≤ 5 ∧ 5 ≤ 5 ∧ Instr.fetch true ∈ fetchForms true ∧ Instr.cmdFetch ∈ fetchForms false ∧
      (∀ k, k = 0 ∨ k = 5 →
        let s := inSession .ten .high
          (scripted [.ok] (List.replicate k .nack ++ [goodFrame]) (List.replicate k .quiet))
        activeSession s = some (.ten, .high) ∧ s.writeScript = [some .ok] ∧
        s.readScript = List.replicate k (some .nack) ++
          [some (.ok (goodFrameBytes s.params 0x60#8 0x00#8 0x40#8 0x00#8))] ∧
        s.waitScript = List.replicate k .quiet ++ []) := by
  refine ⟨by decide, by decide, by decide, by decide, ?_⟩
  rintro k (rfl | rfl) <;> decide +kernel

theorem witness_FetchBudgetExhausted :
    let s := inSession .half .low (scripted [.ok] (List.replicate 6 .nack) (List.replicate 5 .quiet))
    Instr.cmdFetch ∈ fetchForms false ∧ activeSession s = some (.half, .low) ∧
      s.writeScript = [some .ok] ∧ s.readScript = List.replicate 6 (some .nack) ++ [] ∧
      s.waitScript = List.replicate 5 .quiet ++ [] := by
  decide

/-- The first wait at its start, cancelled, and the last wait at its last microsecond, at the deadline. -/
theorem witness_FetchAbortedInWait :
    (let s := inSession .ten .high (scripted [.ok] [.nack] [.cancelAt 0]);
      0 ≤ 4 ∧ 0 < retryWait (tInterval .ten) 0 ∧ Instr.fetch false ∈ fetchForms false ∧
      activeSession s = some (.ten, .high) ∧ s.writeScript = [some .ok] ∧
      s.readScript = List.replicate 1 (some .nack) ++ [] ∧
      s.waitScript = List.replicate 0 .quiet ++ [.cancelAt 0]) ∧
    (let s := inSession .ten .high
        (scripted [.ok] (List.replicate 5 .nack) (List.replicate 4 .quiet ++ [.deadlineAt 9999]));
      4 ≤ 4 ∧ 9999 < retryWait (tInterval .ten) 4 ∧ Instr.fetch true ∈ fetchForms true ∧
      activeSession s = some (.ten, .high) ∧ s.writeScript = [some .ok] ∧
      s.readScript = List.replicate 5 (some .nack) ++ [] ∧
      s.waitScript = List.replicate 4 .quiet ++ [.deadlineAt 9999]) := by decide

/-- A bad checksum at the first read, an input/output error at the sixth. -/
theorem witness_FetchFatalAnswers :
    (let s := inSession .one .low
        (scripted [.ok] [.ok [0x60#8, 0x00#8, 0xD5#8, 0x40#8, 0x00#8, 0x08#8]] []);
      Instr.cmdFetch ∈ fetchForms false ∧ activeSession s = some (.one, .low) ∧
      s.writeScript = [some .ok] ∧ blockCrc s.params 0x60#8 0x00#8 ≠ 0xD5#8) ∧
    (let s := inSession .one .low
        (scripted [.ok] (List.replicate 5 .nack ++ [.ioErr]) (List.replicate 5 .quiet));
      5 ≤ 5 ∧ activeSession s = some (.one, .low) ∧
      s.readScript = List.replicate 5 (some .nack) ++ [some .ioErr] ∧
      s.waitScript = List.replicate 5 .quiet ++ []) := by decide +kernel

/-- No refused read, five, and six. -/
theorem witness_RetryScheduleTotals :
    Instr.fetch true ∈ fetchForms true ∧
    (∀ k, k = 0 ∨ k = 5 →
      let s := inSession .half .low
        (scripted [.ok] (List.replicate k .nack ++ [.ioErr]) (List.replicate k .quiet))
      activeSession s = some (.half, .low) ∧ s.writeScript = [some .ok] ∧ k ≤ 5 ∧
        ReadAnswer.ioErr ≠ .nack ∧ s.readScript = List.replicate k (some .nack) ++ [some .ioErr] ∧
        s.waitScript = List.replicate k .quiet ++ []) ∧
    (let s := inSession .ten .low
        (scripted [.ok] (List.replicate 6 .nack) (List.replicate 5 .quiet));
      activeSession s = some (.ten, .low) ∧ s.readScript = List.replicate 6 (some .nack) ++ [] ∧
      s.waitScript = List.replicate 5 .quiet ++ []) := by
  refine ⟨by decide, ?_, by decide⟩
  rintro k (rfl | rfl) <;> decide

theorem witness_NoActiveAcquisitionExactly :
    opOf .cmdFetch = .fetch ∧ sessionActive State.reset = false ∧ ParamsOk State.reset.params ∧
      ends (fun t => t.rErr == 4#4 && !t.busy) (.fetch true) State.reset = true := by decide +kernel

theorem witness_BreakCompletes :
    (inSession .two .medium (scripted [.ok] [] [])).writeScript = [some .ok] ∧
      TableOk (inSession .two .medium (scripted [.ok] [] [])).params := by decide +kernel

theorem witness_ResetCompletes : (scripted [.ok] [] []).writeScript = [some .ok] := by decide

theorem witness_AlertReadCompletes :
    let s := scripted [.ok] [.ok [0x7E#8, 0xDB#8, 0x39#8]] [];
    Instr.alertRead 3#2 ∈ alertReadForms .lowSet ∧ Instr.cmdAlertRdHighSet ∈ alertReadForms .highSet ∧
      s.writeScript = [some .ok] ∧
      s.readScript = [some (.ok (goodBlockBytes s.params 0x7E#8 0xDB#8))] := by decide +kernel

/-- Both ends of both domains. -/
theorem witness_AlertWriteCompletes :
    Instr.alertWrite 3#2 ∈ alertWriteForms .lowSet ∧ Instr.cmdAlertWrHighSet ∈ alertWriteForms .highSet ∧
      celsius? 0xC2340000#32 = some (-45 * (f32Den : ℤ)) ∧ percent? 0x42C80000#32 = some (100 * (f32Den : ℤ)) ∧
      celsius? 0x43020000#32 = some (130 * (f32Den : ℤ)) ∧ percent? 0#32 = some 0 ∧
      (scripted [.ok] [] []).writeScript = [some .ok] := by decide +kernel

theorem witness_PhysicalOperandDomains :
    Instr.cmdAlertWrLowClear ∈ alertWriteForms .lowClear ∧
      celsius? 0x43020001#32 = none ∧ percent? 0x80000001#32 = none := by decide +kernel

theorem witness_IllFormedOperandsRefused :
    wellFormed (.singleShot 3#2 false) = false ∧ wellFormed (.startPeriodic 5#3 0#2) = false ∧
      wellFormed (.cmdenc 11#4 0#2 0#3 0#2) = false := by decide

/-- One form of each clause; the write fails in one of the two ways. -/
theorem witness_WriteFailureEndsOperation :
    SendsFrame .cmdSsHigh [0x24#8, 0x00#8] State.reset ∧
      SendsFrame .cmdPer10High [0x27#8, 0x37#8] State.reset ∧
      SendsFrame (.fetch true) [0xE0#8, 0x00#8] (inSession .ten .high State.reset) ∧
      SendsFrame .brk [0x30#8, 0x93#8] State.reset ∧
      SendsFrame .cmdReset [0x30#8, 0xA2#8] State.reset ∧
      SendsFrame .heaterOn [0x30#8, 0x6D#8] State.reset ∧
      SendsFrame .isHeaterOn [0xF3#8, 0x2D#8] { State.reset with stCache := some 1#16 } ∧
      SendsFrame (.alertRead 0#2) [0xE1#8, 0x1F#8] State.reset ∧
      SendsFrame (.alertWrite 0#2) [0x61#8, 0x1D#8, 0x7E#8, 0xDB#8, 0x39#8]
        { State.reset with a0 := 0x41F00000#32, a1 := 0x42480000#32 } ∧
      (scripted [.nack] [] []).writeScript = [some .nack] ∧
      (scripted [.ioErr] [] []).writeScript = [some .ioErr] := by
  refine ⟨.inl ⟨.high, false, ?_⟩, .inr (.inl ⟨.ten, .high, ?_⟩), .inr (.inr (.inl ⟨true, ?_⟩)),
    .inr (.inr (.inr (.inl ?_))), .inr (.inr (.inr (.inr (.inl ?_)))),
    .inr (.inr (.inr (.inr (.inr (.inl ⟨.heaterOn, ?_⟩))))),
    .inr (.inr (.inr (.inr (.inr (.inr (.inl ?_)))))),
    .inr (.inr (.inr (.inr (.inr (.inr (.inr (.inl ⟨.highSet, ?_⟩))))))),
    .inr (.inr (.inr (.inr (.inr (.inr (.inr (.inr ⟨.highSet, 30 * f32Den, 50 * f32Den, ?_⟩))))))),
    by decide, by decide⟩ <;> decide +kernel

/-- One form of each clause; each way to fail, a bad second block among them. -/
theorem witness_ReadFailureEndsOperation :
    ReadsOnce (.singleShot 0#2 true) 0x2416#16 6 [.waited 4500 4500 .elapsed] State.reset ∧
      ReadsOnce .isCommandFailed 0xF32D#16 3 [] State.reset ∧
      ReadsOnce .cmdAlertRdLowSet 0xE102#16 3 [] State.reset ∧
      (scripted [.ok] [.nack] []).readScript = [some .nack] ∧
      (scripted [.ok] [.ioErr] []).readScript = [some .ioErr] ∧
      blockWord defaultParams [0x80#8, 0x10#8, 0#8] 0 = none ∧ [0x80#8, 0x10#8, 0#8].length = 3 ∧
      blockWord defaultParams [0x60#8, 0x00#8, 0xD4#8, 0x40#8, 0x01#8, 0x08#8] 3 = none ∧
      [0x60#8, 0x00#8, 0xD4#8, 0x40#8, 0x01#8, 0x08#8].length = 6 := by
  refine ⟨.inl ⟨.low, true, ?_⟩, .inr (.inl ?_), .inr (.inr ⟨.lowSet, ?_⟩), by decide, by decide,
    by decide +kernel, by decide, by decide +kernel, by decide⟩ <;> decide

/-- A write, a single read, and the read of FETCH after no and after five refused ones. -/
theorem witness_HungTransaction :
    SendsFrame .brk [0x30#8, 0x93#8] { State.reset with writeScript := [none] } ∧
      ReadsOnce .cmdAlertRdLowSet 0xE102#16 3 []
        { scripted [.ok] [] [] with readScript := [none] } ∧
      (∀ k, k = 0 ∨ k = 5 →
        let s := { inSession .four .low (scripted [.ok] [] (List.replicate k .quiet)) with
          readScript := List.replicate k (some .nack) ++ [none] }
        k ≤ 5 ∧ Instr.fetch false ∈ fetchForms false ∧ activeSession s = some (.four, .low) ∧
          s.writeScript = [some .ok] ∧ s.waitScript = List.replicate k .quiet ++ []) ∧
      ({ State.reset with busy := true }).busy = true ∧ ({ State.reset with busy := true }).inputs = [] := by
  refine ⟨.inr (.inr (.inr (.inl ?_))), .inr (.inr ⟨.lowSet, ?_⟩), ?_, rfl, rfl⟩
  · decide
  · decide
  · rintro k (rfl | rfl) <;> decide

/-- Both blocks, in both orders. -/
theorem witness_BlockCheckedBeforeUse :
    blockWord defaultParams [0x80#8, 0x10#8, 0xE1#8] 0 = some 0x8010#16 ∧
      blockWord defaultParams [0x60#8, 0x00#8, 0xD4#8, 0x40#8, 0x00#8, 0x08#8] 3 = some 0x4000#16 ∧
      decodeSample defaultParams [0x60#8, 0x00#8, 0xD4#8, 0x40#8, 0x00#8, 0x08#8] =
        some (0x6000#16, 0x4000#16) := by decide +kernel

/-- A transport that answers one write and six reads. -/
theorem witness_EveryOperationEnds :
    opOf .alpack ∈ pureOps ∧
      (let s := inSession .ten .low (scripted [.ok] (List.replicate 6 .nack) []);
        s.writeScript = some .ok :: [] ∧ (List.replicate 6 ReadAnswer.nack).length = 6 ∧
        s.readScript = (List.replicate 6 ReadAnswer.nack).map some ++ []) := by decide

/-- A sound state with an active session, whose next step runs a request; and a sound state that hangs. -/
theorem witness_StepKeepsSound :
    let s := { inSession .one .high (scripted [.ok] [goodFrame] []) with
      rTf32 := b32Centi 0, rRhf32 := b32Centi 0, inputs := [.writeReq 0x12800000#32] }
    (Sound s ∧ stepEnds (fun t => t.rErr == 0#4) s = true) ∧
      Sound { s with busy := true, fsm := .fetchPending, inputs := [] } := by
  refine ⟨⟨⟨by decide +kernel, by unfold FsmOk; decide, ?_, by unfold CountersOk; decide,
    .inl rfl, fun _ => by decide +kernel⟩, by decide +kernel⟩, by decide +kernel,
    by unfold FsmOk; decide, ?_, by unfold CountersOk; decide, .inl rfl, fun _ => by decide +kernel⟩
  · intro c h _
    cases h
    exact ⟨.one, .high, rfl, rfl, rfl⟩
  · intro c h _
    cases h
    exact ⟨.one, .high, rfl, rfl, rfl⟩

theorem witness_SoundFloatsClean : Sound State.reset ∧ State.reset.params.convArith = .exact := by
  refine ⟨⟨by decide +kernel, by unfold FsmOk; decide, ?_, by unfold CountersOk; decide,
    .inl rfl, fun _ => by decide +kernel⟩, rfl⟩
  intro c h _
  cases h

theorem witness_StepStopsOnlyOnOverlap :
    State.reset.busy = false ∧
      (let s := { State.reset with busy := true, inputs := [.writeA0 0#32] };
        s.busy = true ∧ s.inputs ≠ []) := by decide

/-- An error, and a transport that never returns. -/
theorem witness_FailureLeavesResults :
    ends (fun t => t.rErr == 1#4) .statusFresh (scripted [.ok] [.ok [0#8, 0#8, 0#8]] []) = true ∧
      ends (fun t => t.busy) .statusFresh { State.reset with writeScript := [none] } = true := by
  decide +kernel

/-- Next states of operations outside each clause's list, and of one inside. -/
theorem witness_ResultsWrittenOnlyByTheirOperations :
    ends (fun t => t.rErr == 0#4) .brk (scripted [.ok] [] []) = true ∧
      ends (fun t => t.rErr == 0#4) .heaterOn (scripted [.ok] [] []) = true ∧
      opOf .brk ∉ predicateOps ∧ opOf .heaterOn ∉ [Op.crc8, .alertWrite] := by decide

/-- Each clause: operations outside its list, and the successful ones of the last. -/
theorem witness_HandleAndCounterWriters :
    State.reset.params.lcPolicy = .startBreakOnly ∧ opOf (.stdec 0#16) ∈ pureOps ∧
      ParamsOk State.reset.params ∧
      ends (fun t => t.rErr == 0#4 && !t.busy) .reset (scripted [.ok] [] []) = true ∧
      ends (fun t => t.rErr == 0#4 && !t.busy) (.startPeriodic 1#3 2#2) (scripted [.ok] [] []) = true ∧
      ends (fun t => t.rErr == 0#4 && !t.busy) .cmdBreak (scripted [.ok] [] []) = true ∧
      ends (fun t => t.rErr == 0#4 && !t.busy) .isHeaterOn (scripted [.ok] [goodBlock] []) = true ∧
      ends (fun t => t.rErr == 0#4 && !t.busy) .cmdFetch
        (inSession .one .low (scripted [.ok] [goodFrame] [])) = true := by decide +kernel

theorem witness_SessionChangesOnlyByStartAndBreak :
    ParamsOk State.reset.params ∧ sessionActive State.reset = false ∧
      ends sessionActive (.startPeriodic 0#3 0#2) (scripted [.ok] [] []) = true ∧
      sessionActive (inSession .half .low (scripted [.ok] [] [])) = true ∧
      ends (fun t => !sessionActive t) .cmdBreak (inSession .half .low (scripted [.ok] [] [])) = true := by
  decide +kernel

theorem witness_CacheInvalidatedExactly :
    ParamsOk State.reset.params ∧ WellFormed .heaterOn ∧
      opOf .heaterOn ∈ State.reset.params.stInvalidators ∧
      opOf .reset ∉ State.reset.params.stInvalidators ∧
      opOf .statusRead ∉ State.reset.params.stInvalidators ∧
      ends (fun t => t.stCache == none) .heaterOn
        { scripted [.ok] [] [] with stCache := some 1#16 } = true ∧
      ends (fun t => t.stCache == some 1#16) .reset
        { scripted [.ok] [] [] with stCache := some 1#16 } = true ∧
      ends (fun t => t.stCache == some 1#16) .statusRead
        { State.reset with stCache := some 1#16 } = true ∧
      (celsius? 0#32 ≠ none ∧ percent? 0#32 ≠ none) := by decide +kernel

/-- The same clauses with no invalidator at all (log 21): a fresh status read, its command word and a
predicate keep the cached word and answer from it. -/
theorem witness_CacheInvalidatedExactly_outside :
    let s := { State.reset with
      stCache := some 0x2000#16, params := { defaultParams with stInvalidators := [] } };
    ParamsOk s.params ∧
      ∀ i ∈ [Instr.statusFresh, .cmdStatusRead, .isHeaterOn],
        WellFormed i ∧ opOf i ∉ s.params.stInvalidators ∧
        opOf i ∈ [Op.statusRead, .statusFresh] ++ predicateOps ∧
        ends (fun t => t.stCache == some 0x2000#16 && t.rWord == 0x2000#16 && t.trace == []) i s = true := by
  decide +kernel

theorem witness_PureOperationsStayInside :
    opOf .alpack ∈ pureOps ∧ ends (fun t => t.rErr == 0#4) .alpack State.reset = true := by decide

theorem witness_OnlyFetchSeesCancellation :
    opOf (.singleShot 0#2 true) ≠ .fetch ∧
      ends (fun t => t.rErr == 0#4) (.singleShot 0#2 false)
        (scripted [.ok] [goodFrame] [.cancelAt 0]) = true := by decide +kernel

/-- Six refused reads and five waits: the bounds are reached. -/
theorem witness_OperationsAddBoundedEvents :
    ends (fun t => writeCount t.trace == 1 && readCount t.trace == 6 && waitCount t.trace == 5)
      (.fetch false)
      (inSession .ten .low (scripted [.ok] (List.replicate 6 .nack) (List.replicate 5 .quiet))) = true := by
  decide

end Sys2Proof.Tests
end

section
/-! The session predicate of the engine state (R32). -/

namespace Sys2Proof.Machine
open Sys2Proof.Config

/-- A session is active exactly when some session descriptor is read back as the active one (R32). -/
theorem sessionActive_iff_exists_activeSession {s : State} :
    sessionActive s = true ↔ ∃ cad res, activeSession s = some (cad, res) := by
  rw [sessionActive, Option.isSome_iff_exists, Prod.exists]

/-- Settles O35: the descriptor that `activeSession` answers gives the cadence and the resolution, and a
register decodes to one of these exactly when it holds its encoding. -/
theorem sessionActiveIff : Obligations.SessionActiveIff := by
  intro s
  simp only [sessionActive_iff_exists_activeSession, activeSession_eq_some, cadence?_eq_some,
    resolution?_eq_some]
  constructor
  · rintro ⟨c, r, w, hw⟩
    exact ⟨w, c, r, hw⟩
  · rintro ⟨w, c, r, hw⟩
    exact ⟨c, r, w, hw⟩

end Sys2Proof.Machine
end

section
/-! The two roundings of R10 as the floors that define them, and what the conversions need of them: they
are non-decreasing and leave a whole number as it is. -/

namespace Sys2Proof.Machine
open Sys2Proof.Config

/-! ## Rounding half away from zero -/

/-- Rounding to the nearest integer in whole numbers: the half is carried by doubling the fraction. -/
theorem floor_div_add_half (n : ℤ) {d : ℕ} (hd : 0 < d) :
    ⌊(n : ℚ) / d + 1 / 2⌋ = (2 * n + d) / (2 * d) := by
  have hfrac : (n : ℚ) / d + 1 / 2 = ((2 * n + d : ℤ) : ℚ) / ((2 * d : ℕ) : ℚ) := by
    push_cast
    field_simp
  rw [hfrac, Rat.floor_intCast_div_natCast, Nat.cast_mul, Nat.cast_two]

theorem rhazDiv_of_nonneg {n : ℤ} (d : ℕ) (hn : 0 ≤ n) : rhazDiv n d = (2 * n + d) / (2 * d) := by
  simp [rhazDiv, hn, abs_of_nonneg hn]

theorem rhazDiv_zero (d : ℕ) : rhazDiv 0 d = 0 := by
  have hsmall : d / (2 * d) = 0 := Nat.div_eq_zero_iff.2 (by omega)
  simp [rhazDiv, hsmall]

/-- Halves go away from zero on both sides, so the rounding is odd. -/
theorem rhazDiv_neg (n : ℤ) (d : ℕ) : rhazDiv (-n) d = -rhazDiv n d := by
  rcases lt_trichotomy n 0 with hn | rfl | hn
  · simp [rhazDiv, hn.le, hn.not_ge]
  · simp [rhazDiv_zero]
  · simp [rhazDiv, hn.le, hn.not_ge]

theorem rhazDiv_eq_floor_of_nonneg {n : ℤ} {d : ℕ} (hd : 0 < d) (hn : 0 ≤ n) :
    rhazDiv n d = ⌊(n : ℚ) / d + 1 / 2⌋ := by
  rw [rhazDiv_of_nonneg d hn, floor_div_add_half n hd]

/-- `rhaz` of R10, over the rationals. -/
theorem rhazDiv_eq_ite_floor (n : ℤ) {d : ℕ} (hd : 0 < d) :
    rhazDiv n d =
      if 0 ≤ (n : ℚ) / d then ⌊(n : ℚ) / d + 1 / 2⌋ else -⌊-((n : ℚ) / d) + 1 / 2⌋ := by
  have hsign : 0 ≤ (n : ℚ) / d ↔ 0 ≤ n := by
    rw [le_div_iff₀ (Nat.cast_pos.2 hd), zero_mul, Int.cast_nonneg_iff]
  simp only [hsign]
  split
  case isTrue hn => exact rhazDiv_eq_floor_of_nonneg hd hn
  case isFalse hn =>
    rw [← neg_neg n, rhazDiv_neg, rhazDiv_eq_floor_of_nonneg hd (by omega), neg_neg, Int.cast_neg,
      neg_div]

/-- The rounding with integers only, from the magnitude of the numerator and its sign (R141). -/
theorem rhazDiv_eq_sign_mul (n : ℤ) (d : ℕ) :
    rhazDiv n d = n.sign * ((2 * |n| + d) / (2 * d)) := by
  rcases lt_trichotomy n 0 with hn | rfl | hn
  · rw [Int.sign_eq_neg_one_of_neg hn, abs_of_neg hn, ← rhazDiv_of_nonneg d (by omega), rhazDiv_neg]
    ring
  · simp [rhazDiv_zero]
  · rw [Int.sign_eq_one_of_pos hn, abs_of_pos hn, rhazDiv_of_nonneg d hn.le, one_mul]

theorem rhazDiv_mono {d : ℕ} (hd : 0 < d) : Monotone (rhazDiv · d) := by
  refine monotone_of_odd_of_monotoneOn_nonneg (rhazDiv_neg · d) fun n hn m hm hnm => ?_
  simp only [rhazDiv_of_nonneg d hn, rhazDiv_of_nonneg d hm]
  exact Int.ediv_le_ediv (by omega) (by omega)

/-! ## The rounding of the inverse conversions -/

theorem truncDiv_eq_floor_of_nonneg {n : ℤ} (d : ℕ) (hn : 0 ≤ n) :
    truncDiv n d = ⌊(n : ℚ) / d⌋ := by
  rw [Rat.floor_intCast_div_natCast]
  simp [truncDiv, hn, abs_of_nonneg hn]

theorem invRound_le_invRound_of_nonneg (r : InvRounding) {n m : ℤ} {d : ℕ} (hd : 0 < d)
    (hn : 0 ≤ n) (hnm : n ≤ m) : invRound r n d ≤ invRound r m d := by
  cases r with
  | truncate =>
    simp only [invRound, truncDiv_eq_floor_of_nonneg d hn,
      truncDiv_eq_floor_of_nonneg d (hn.trans hnm)]
    gcongr
  | nearest => exact rhazDiv_mono hd hnm

/-- A quotient that is a whole number has nothing to round. -/
theorem invRound_mul_natCast (r : InvRounding) (k : ℕ) {d : ℕ} (hd : 0 < d) :
    invRound r (k * d) d = k := by
  have hquot : (((k * d : ℤ) : ℚ) / d) = (k : ℤ) := by
    push_cast
    field_simp
  cases r with
  | truncate =>
    rw [invRound, truncDiv_eq_floor_of_nonneg d (by positivity), hquot, Int.floor_intCast]
  | nearest =>
    rw [invRound, rhazDiv_eq_floor_of_nonneg hd (by positivity), hquot, Int.floor_intCast_add]
    norm_num

/-- A quotient between 0 and `k` is rounded to an integer between 0 and `k`. -/
theorem invRound_mem_Icc (r : InvRounding) {n : ℤ} {d k : ℕ} (hd : 0 < d) (hn : 0 ≤ n)
    (hnk : n ≤ k * d) : 0 ≤ invRound r n d ∧ invRound r n d ≤ k := by
  have hlow := invRound_le_invRound_of_nonneg r hd le_rfl hn
  have hhigh := invRound_le_invRound_of_nonneg r hd hn hnk
  have hzero := invRound_mul_natCast r 0 hd
  rw [invRound_mul_natCast r k hd] at hhigh
  simp only [Nat.cast_zero, zero_mul] at hzero
  omega

/-- The inverse conversions in the form R146 and R147 give them: what either value of INV_ROUNDING makes
of the exact quotient `x`, written as `n / d`, when it lies between 0 and 65535. -/
theorem invRound_code_spec {n : ℤ} {d : ℕ} {x : ℚ} (hx : x = n / d) (hd : 0 < d) (hn : 0 ≤ n)
    (hmax : n ≤ 65535 * d) :
    0 ≤ x ∧ invRound .truncate n d = ⌊x⌋ ∧ invRound .nearest n d = ⌊x + 1 / 2⌋ ∧
      ∀ r, 0 ≤ invRound r n d ∧ invRound r n d ≤ 65535 := by
  subst hx
  exact ⟨by positivity, truncDiv_eq_floor_of_nonneg d hn, rhazDiv_eq_floor_of_nonneg hd hn,
    fun r => invRound_mem_Icc r (k := 65535) hd hn hmax⟩

end Sys2Proof.Machine
end

section
/-! The unit conversion unit's functions: each is one rounding (R140) of the quotient its formula states,
so its law is the law of the rounding. -/

namespace Sys2Proof.Machine
open Sys2Proof.Config

/-! ## Code to value -/

/-- The exact quotient of R141, in hundredths of a degree. -/
theorem celsius_formula_eq_div (c : ℕ) :
    100 * ((c : ℚ) * 175 / 65535 - 45) = ((17500 * c - 294907500 : ℤ) : ℚ) / (65535 : ℕ) := by
  push_cast
  ring

/-- Settles O9: `t_centi` is `rhaz` of the formula's numerator over 65535. -/
theorem tCentiFormula : Obligations.TCentiFormula := by
  refine ⟨fun code => ⟨?formula, ?integers, ?low, ?high⟩, rfl, rfl, fun a b hab => ?mono⟩
  case formula =>
    rw [celsius_formula_eq_div]
    exact rhazDiv_eq_ite_floor _ (by decide)
  case integers => exact rhazDiv_eq_sign_mul _ 65535
  case low => omega
  case high => omega
  case mono => exact rhazDiv_mono (d := 65535) (by decide) (by omega)

/-- The exact quotient of R142, in hundredths of a percent. -/
theorem percent_formula_eq_div (c : ℕ) :
    100 * ((c : ℚ) * 100 / 65535) = ((10000 * c : ℤ) : ℚ) / (65535 : ℕ) := by
  push_cast
  ring

/-- The integer form that the model evaluates is the rounding of R142's quotient. -/
theorem rhCentiExact_eq_rhazDiv (code : Word) :
    rhCentiExact code = rhazDiv (10000 * code.toNat) 65535 := by
  rw [rhazDiv_of_nonneg _ (by positivity), rhCentiExact]
  push_cast
  congr 1
  ring

/-- The model's division of naturals is the floor that R142 names. -/
theorem rhCentiExact_eq_floor (code : Word) :
    rhCentiExact code = ⌊((2 * 10000 * code.toNat + 65535 : ℕ) : ℚ) / (2 * 65535)⌋ := by
  rw [rhCentiExact, add_comm 65535]
  exact_mod_cast (Rat.floor_natCast_div_natCast (2 * 10000 * code.toNat + 65535) (2 * 65535)).symm

/-- Settles O10: `rh_centi` is `rhaz` of a numerator that is never negative. -/
theorem rhCentiFormula : Obligations.RhCentiFormula := by
  refine ⟨fun code => ⟨?formula, rhCentiExact_eq_floor code, ?bits⟩, rfl, rfl, fun a b hab => ?mono⟩
  case formula =>
    rw [percent_formula_eq_div]
    exact (rhCentiExact_eq_rhazDiv code).trans
      (rhazDiv_eq_floor_of_nonneg (by decide) (by positivity))
  case bits => omega
  case mono =>
    simp only [rhCenti, rhCentiExact_eq_rhazDiv]
    exact rhazDiv_mono (d := 65535) (by decide) (by omega)

/-! ## Value to code -/

/-- Settles O12: `t_code` rounds a quotient that runs from 0, at -45, to 65535, at 130. -/
theorem tCodeFormula : Obligations.TCodeFormula := by
  refine ⟨fun n d hd hlow hhigh => ?formula, fun r => ⟨?atLow, ?atHigh⟩⟩
  case formula =>
    refine invRound_code_spec ?_ (by omega) (by omega) (by push_cast; omega)
    push_cast
    field_simp
  case atLow => exact invRound_mul_natCast r 0 (d := 175) (by decide)
  case atHigh => exact invRound_mul_natCast r 65535 (d := 175) (by decide)

/-- Settles O13: `rh_code` rounds a quotient that runs from 0, at 0, to 65535, at 100. -/
theorem rhCodeFormula : Obligations.RhCodeFormula := by
  refine ⟨fun n d hd hlow hhigh => ?formula, fun r => ⟨?atLow, ?atHigh⟩⟩
  case formula =>
    refine invRound_code_spec ?_ (by omega) (by omega) (by push_cast; omega)
    push_cast
    field_simp
  case atLow => exact invRound_mul_natCast r 0 (d := 100) (by decide)
  case atHigh => exact invRound_mul_natCast r 65535 (d := 100) (by decide)

end Sys2Proof.Machine
end

section
/-! The command table's look-ups at the default record: each selects the entry its selectors name. -/

namespace Sys2Proof.Machine
open Sys2Proof.Config

/-- Settles O19: one part per look-up, each a list of literals, so evaluating the look-ups on the default
table decides it (R160 to R162). -/
theorem commandTableValues : Obligations.CommandTableValues := by
  refine ⟨?single, ?periodic, ?fixed, ?alertRead, ?alertWrite⟩
  case single => rfl
  case periodic => rfl
  case fixed => rfl
  case alertRead => rfl
  case alertWrite => rfl

end Sys2Proof.Machine
end

section
/-! The status decoder (R172): the bits of its result, and the bits of the word it depends on. -/

namespace Sys2Proof.Machine
open Sys2Proof.Config

/-- Bit `f` of the decoded flags is the bit of the word at STATUS_BIT(f) (R172). -/
@[simp] theorem stDecode_getLsbD (b : StatusBits) (w : Word) (f : StatusFlag) :
    (stDecode b w).getLsbD (flagIndex f) = w.getLsbD (statusBit b f) := by
  simp only [stDecode, BitVec.getLsbD_append]
  cases f <;> simp [statusFlag, flagIndex]

/-- The seven flags fill R_FLAGS (R36). -/
theorem exists_flagIndex_eq : ∀ i < 7, ∃ f, flagIndex f = i
  | 0, _ => ⟨.alertPending, rfl⟩
  | 1, _ => ⟨.heaterEnabled, rfl⟩
  | 2, _ => ⟨.humidityAlert, rfl⟩
  | 3, _ => ⟨.temperatureAlert, rfl⟩
  | 4, _ => ⟨.resetDetected, rfl⟩
  | 5, _ => ⟨.commandFailed, rfl⟩
  | 6, _ => ⟨.writeDataCrcFailed, rfl⟩

/-- The decoder sees exactly the bits at the positions of the flags, at any positions. -/
theorem stDecode_eq_iff (b : StatusBits) (v w : Word) :
    stDecode b v = stDecode b w ↔ ∀ f, v.getLsbD (statusBit b f) = w.getLsbD (statusBit b f) := by
  constructor
  · intro h f
    rw [← stDecode_getLsbD, h, stDecode_getLsbD]
  · intro h
    refine BitVec.eq_of_getLsbD_eq fun i hi => ?_
    obtain ⟨f, rfl⟩ := exists_flagIndex_eq i hi
    simpa using h f

/-- Two words agree under a mask when they agree at each position the mask selects. -/
theorem and_mask_eq_iff {n : Nat} (m v w : BitVec n) :
    v &&& m = w &&& m ↔ ∀ i, m.getLsbD i = true → v.getLsbD i = w.getLsbD i := by
  constructor
  · intro h i hm
    simpa [hm] using congrArg (BitVec.getLsbD · i) h
  · intro h
    refine BitVec.eq_of_getLsbD_eq fun i _ => ?_
    cases hm : m.getLsbD i with
    | false => simp [hm]
    | true => simp [hm, h i hm]

/-- The mask of the seven default positions (R170); the nine other bits have no meaning. -/
theorem defaultStatusMask_getLsbD_iff (i : Nat) :
    (0xAC13#16).getLsbD i = true ↔ ∃ f, statusBit defaultParams.statusBit f = i := by
  constructor
  · intro h
    have selected : ∀ j < 16, (0xAC13#16).getLsbD j = true →
        ∃ f ∈ Safety.statusFlags, statusBit defaultParams.statusBit f = j := by decide
    obtain ⟨f, -, hf⟩ := selected i (BitVec.lt_of_getLsbD h) h
    exact ⟨f, hf⟩
  · rintro ⟨f, rfl⟩
    cases f <;> rfl

/-- Settles O21: the mask selects the positions of the flags, which are all that the decoder sees. -/
theorem statusDecodeBits : Obligations.StatusDecodeBits := by
  refine ⟨stDecode_getLsbD, ?positions, fun v w => ?ignored⟩
  case positions => rfl
  case ignored =>
    rw [and_mask_eq_iff, stDecode_eq_iff]
    simp [defaultStatusMask_getLsbD_iff]

end Sys2Proof.Machine
end

section
/-! Reading encodings back (R70 to R74, R80 to R112). A request word is its three fields and a selector
byte its four, and the decoder sees a word through these fields alone. -/

namespace Sys2Proof
open Sys2Proof.Config Sys2Proof.Machine Sys2Proof.Safety

/-! ## The fields of a request word -/

@[simp] theorem reqSel_packReq (op sel : Byte) (data : Word) : reqSel (packReq op sel data) = sel := by
  refine BitVec.eq_of_getLsbD_eq fun i hi => ?_
  simp only [reqSel, packReq, BitVec.getLsbD_append, BitVec.getLsbD_extractLsb']
  grind

@[simp] theorem reqData_packReq (op sel : Byte) (data : Word) :
    reqData (packReq op sel data) = data := by
  refine BitVec.eq_of_getLsbD_eq fun i hi => ?_
  simp only [reqData, packReq, BitVec.getLsbD_append, BitVec.getLsbD_extractLsb']
  grind

/-- A request word is its three fields (R70). -/
theorem packReq_fields (w : Word32) : packReq (reqOp w) (reqSel w) (reqData w) = w := by
  refine BitVec.eq_of_getLsbD_eq fun i hi => ?_
  simp only [packReq, reqOp, reqSel, reqData, BitVec.getLsbD_append, BitVec.getLsbD_extractLsb']
  grind

section
variable (op : Byte) (conv : Bool) (thr : BitVec 2) (cad : BitVec 3) (res : BitVec 2) (data : Word)

@[simp] theorem reqConv_packSel : reqConv (packReq op (packSel conv thr cad res) data) = conv := by
  simp only [reqConv, packReq, packSel, BitVec.getLsbD_append, BitVec.getLsbD_ofBool]
  grind

@[simp] theorem reqThr_packSel : reqThr (packReq op (packSel conv thr cad res) data) = thr := by
  refine BitVec.eq_of_getLsbD_eq fun i hi => ?_
  simp only [reqThr, packReq, packSel, BitVec.getLsbD_append, BitVec.getLsbD_extractLsb']
  grind

@[simp] theorem reqCad_packSel : reqCad (packReq op (packSel conv thr cad res) data) = cad := by
  refine BitVec.eq_of_getLsbD_eq fun i hi => ?_
  simp only [reqCad, packReq, packSel, BitVec.getLsbD_append, BitVec.getLsbD_extractLsb']
  grind

@[simp] theorem reqRes_packSel : reqRes (packReq op (packSel conv thr cad res) data) = res := by
  refine BitVec.eq_of_getLsbD_eq fun i hi => ?_
  simp only [reqRes, packReq, packSel, BitVec.getLsbD_append, BitVec.getLsbD_extractLsb']
  grind

end

/-- A selector byte is its four fields (R71). -/
theorem packSel_fields (w : Word32) :
    packSel (reqConv w) (reqThr w) (reqCad w) (reqRes w) = reqSel w := by
  refine BitVec.eq_of_getLsbD_eq fun i hi => ?_
  simp only [packSel, reqSel, reqConv, reqThr, reqCad, reqRes, BitVec.getLsbD_append,
    BitVec.getLsbD_extractLsb', BitVec.getLsbD_ofBool]
  grind

/-! ## The slices that the decoder tests for zero, as fields -/

/-- A concatenation determines its parts. -/
theorem append_inj_iff {m n : Nat} {a a' : BitVec m} {b b' : BitVec n} :
    a ++ b = a' ++ b' ↔ a = a' ∧ b = b' := by
  constructor
  · intro h
    have hleft := congrArg (BitVec.extractLsb' n m) h
    have hright := congrArg (BitVec.extractLsb' 0 n) h
    rw [BitVec.extractLsb'_append_eq_left, BitVec.extractLsb'_append_eq_left] at hleft
    rw [BitVec.extractLsb'_append_eq_right, BitVec.extractLsb'_append_eq_right] at hright
    exact ⟨hleft, hright⟩
  · rintro ⟨rfl, rfl⟩
    rfl

/-- A slice is its upper part above its lower part. -/
theorem slice_append {l : Nat} (w : BitVec l) (k m n : Nat) :
    w.extractLsb' k (m + n) = w.extractLsb' (k + n) m ++ w.extractLsb' k n :=
  (BitVec.extractLsb'_append_extractLsb'_eq_extractLsb' rfl).symm

theorem low24_eq_zero_iff (w : Word32) :
    w.extractLsb' 0 24 = 0#24 ↔ reqSel w = 0#8 ∧ reqData w = 0#16 := by
  have hfields : w.extractLsb' 0 24 = reqSel w ++ reqData w := slice_append w 0 8 16
  rw [hfields, show (0#24) = 0#8 ++ 0#16 from rfl, append_inj_iff]

theorem low21_eq_zero_iff (w : Word32) :
    w.extractLsb' 0 21 = 0#21 ↔ reqCad w = 0#3 ∧ reqRes w = 0#2 ∧ reqData w = 0#16 := by
  have hfields : w.extractLsb' 0 21 = reqCad w ++ (reqRes w ++ reqData w) :=
    (slice_append w 0 3 18).trans (congrArg (reqCad w ++ ·) (slice_append w 0 2 16))
  rw [hfields, show (0#21) = 0#3 ++ (0#2 ++ 0#16) from rfl, append_inj_iff, append_inj_iff]

theorem low23_eq_zero_iff (w : Word32) :
    w.extractLsb' 0 23 = 0#23 ↔
      reqThr w = 0#2 ∧ reqCad w = 0#3 ∧ reqRes w = 0#2 ∧ reqData w = 0#16 := by
  have hfields : w.extractLsb' 0 23 = reqThr w ++ w.extractLsb' 0 21 := slice_append w 0 2 21
  rw [hfields, show (0#23) = 0#2 ++ 0#21 from rfl, append_inj_iff, low21_eq_zero_iff]

/-- The data of CRC8: its two payload bytes. -/
theorem data_eq_bytes (w : Word32) : reqData w = w.extractLsb' 8 8 ++ w.extractLsb' 0 8 :=
  slice_append w 0 8 8

/-- The data of CMDENC: an unused part and the class. -/
theorem data_eq_cls (w : Word32) : reqData w = w.extractLsb' 4 12 ++ w.extractLsb' 0 4 :=
  slice_append w 0 12 4

theorem bytes_packReq (op sel b0 b1 : Byte) :
    (packReq op sel (b0 ++ b1)).extractLsb' 8 8 = b0 ∧
      (packReq op sel (b0 ++ b1)).extractLsb' 0 8 = b1 := by
  have h := data_eq_bytes (packReq op sel (b0 ++ b1))
  rw [reqData_packReq] at h
  obtain ⟨h0, h1⟩ := append_inj_iff.1 h
  exact ⟨h0.symm, h1.symm⟩

theorem cls_packReq (op sel : Byte) (cls : BitVec 4) :
    (packReq op sel (0#12 ++ cls)).extractLsb' 4 12 = 0#12 ∧
      (packReq op sel (0#12 ++ cls)).extractLsb' 0 4 = cls := by
  have h := data_eq_cls (packReq op sel (0#12 ++ cls))
  rw [reqData_packReq] at h
  obtain ⟨h0, h1⟩ := append_inj_iff.1 h
  exact ⟨h0.symm, h1.symm⟩

/-! ## The guards of the decoder -/

theorem whenUnusedZero_eq_ok {zero : Bool} {x : Except DecodeError Instr} {i : Instr} :
    whenUnusedZero zero x = .ok i ↔ zero = true ∧ x = .ok i := by
  cases zero <;> simp [whenUnusedZero]

theorem whenRes_eq_ok {res : BitVec 2} {x : Except DecodeError Instr} {i : Instr} :
    whenRes res x = .ok i ↔ resOk res = true ∧ x = .ok i := by
  cases h : resOk res <;> simp [whenRes, h]

theorem whenCad_eq_ok {cad : BitVec 3} {x : Except DecodeError Instr} {i : Instr} :
    whenCad cad x = .ok i ↔ cadOk cad = true ∧ x = .ok i := by
  cases h : cadOk cad <;> simp [whenCad, h]

theorem noOperand_eq_ok {w : Word32} {i j : Instr} :
    noOperand w i = .ok j ↔ (reqSel w = 0#8 ∧ reqData w = 0#16) ∧ i = j := by
  rw [noOperand, whenUnusedZero_eq_ok, beq_iff_eq, low24_eq_zero_iff, Except.ok.injEq]

/-- What CMDENC accepts: no bit outside the four operands, and operands that are a legal request. -/
theorem decodeCmdenc_eq_ok {w : Word32} {i : Instr} :
    decodeCmdenc w = .ok i ↔
      (reqConv w = false ∧ w.extractLsb' 4 12 = 0#12) ∧
        cmdencOk (w.extractLsb' 0 4) (reqRes w) (reqCad w) (reqThr w) = true ∧
        .cmdenc (w.extractLsb' 0 4) (reqRes w) (reqCad w) (reqThr w) = i := by
  simp only [decodeCmdenc, whenUnusedZero_eq_ok, Bool.and_eq_true, Bool.not_eq_true', beq_iff_eq,
    and_congr_right_iff]
  intro _
  simp only [cmdencOk]
  split <;> simp [whenUnusedZero_eq_ok, whenRes_eq_ok, whenCad_eq_ok] <;> grind

/-! ## What a request decodes to, and what it is encoded as -/

/-- An operation without operands: the word is its number and zeros. -/
theorem noOperand_packOp (op : Byte) (i : Instr) :
    noOperand (packReq op 0#8 0#16) i = .ok i := by
  simp [noOperand_eq_ok]

/-- A request is decoded under its own operation number, where the numbers are distinct (R72). -/
theorem decodeReq_packReq {p : Params} (hp : EncodingsDistinct p) (o : Op) (sel : Byte) (data : Word) :
    decode p (.request (packReq (opNumber p.hostop o) sel data)) =
      decodeOp o (packReq (opNumber p.hostop o) sel data) := by
  simp only [decode, decodeReq, Laws.reqOp_packReq, opOfNumber?_opNumber hp]

/-- A command word is decoded to the row of its name, where the words are distinct (R163). -/
theorem decode_cmdWord {p : Params} (hp : EncodingsDistinct p) (n : Cmd) :
    decode p (.command (cmdWord p.cmd n)) = .ok (commandInstr n) := by
  simp only [decode, decodeCommand, commandName?_cmdWord hp]

/-- The row of a command name is encoded as its word (R80 to R112), and is legal. -/
theorem encode_commandInstr (p : Params) (n : Cmd) :
    encode p (commandInstr n) = .command (cmdWord p.cmd n) := by
  rcases n with r | ⟨c, r⟩ | f | t | t
  · cases r <;> rfl
  · cases c <;> cases r <;> rfl
  · cases f <;> rfl
  · cases t <;> rfl
  · cases t <;> rfl

theorem wellFormed_commandInstr (n : Cmd) : WellFormed (commandInstr n) := by
  rcases n with r | ⟨c, r⟩ | f | t | t
  · cases r <;> rfl
  · cases c <;> cases r <;> rfl
  · cases f <;> rfl
  · cases t <;> rfl
  · cases t <;> rfl

theorem decode_encode_commandInstr {p : Params} (hp : EncodingsDistinct p) (n : Cmd) :
    decode p (encode p (commandInstr n)) = .ok (commandInstr n) := by
  rw [encode_commandInstr, decode_cmdWord hp]

/-- Settles O1: a request is found under its operation number and its operands are read back field by
field; a command word is found under its name. -/
theorem decodeOfEncode : Obligations.DecodeOfEncode := by
  intro p i hp hwf
  by_cases hrow : ∃ n ∈ allCmds, commandInstr n = i
  · obtain ⟨n, -, rfl⟩ := hrow
    exact decode_encode_commandInstr hp n
  cases i with
  | crc8 seed b0 b1 =>
    obtain ⟨h0, h1⟩ := bytes_packReq (opNumber p.hostop .crc8) seed b0 b1
    simp only [encode, decodeReq_packReq hp, decodeOp, reqSel_packReq, h0, h1]
  | cmdenc cls res cad thr =>
    obtain ⟨h0, h1⟩ := cls_packReq (opNumber p.hostop .cmdenc) (packSel false thr cad res) cls
    have hok : cmdencOk cls res cad thr = true := hwf
    simp only [encode, decodeReq_packReq hp, decodeOp, decodeCmdenc_eq_ok, reqConv_packSel,
      reqRes_packSel, reqCad_packSel, reqThr_packSel, h0, h1, hok, and_self]
  | code2c code | code2rh code | stdec w | alunpack w =>
    simp [encode, decodeReq_packReq hp, decodeOp, whenUnusedZero]
  | singleShot res conv =>
    have hok : resOk res = true := hwf
    simp [encode, decodeReq_packReq hp, decodeOp, whenUnusedZero, whenRes, hok]
  | startPeriodic cad res =>
    obtain ⟨hcad, hres⟩ : cadOk cad = true ∧ resOk res = true := by
      simpa [WellFormed, wellFormed] using hwf
    simp [encode, decodeReq_packReq hp, decodeOp, whenUnusedZero, whenCad, whenRes, hcad, hres]
  | fetch conv =>
    simp [encode, decodeReq_packReq hp, decodeOp, whenUnusedZero_eq_ok, low23_eq_zero_iff]
  | alertRead thr | alertWrite thr =>
    simp [encode, decodeReq_packReq hp, decodeOp, whenUnusedZero_eq_ok, low21_eq_zero_iff]
  | c2code | rh2code | alpack | brk | reset | heaterOn | heaterOff | statusRead | statusFresh
  | clearStatus | isAlertPending | isHeaterOn | isHumidityAlert | isTemperatureAlert
  | isResetDetected | isCommandFailed | isWriteCrcFailed =>
    exact (decodeReq_packReq hp _ _ _).trans (noOperand_packOp _ _)
  | _ => exact absurd (by decide) hrow

/-- A request that decodes to `i` is the encoding of `i` under the operation's number: every bit that is
no operand was tested. -/
theorem encode_of_decodeOp (p : Params) {o : Op} {w : Word32} {i : Instr} (h : decodeOp o w = .ok i) :
    WellFormed i ∧
      encode p i = .request (packReq (opNumber p.hostop o) (reqSel w) (reqData w)) := by
  cases o with
  | crc8 =>
    cases h
    exact ⟨rfl, by rw [data_eq_bytes]; rfl⟩
  | cmdenc =>
    obtain ⟨⟨hconv, hdata⟩, hok, rfl⟩ := decodeCmdenc_eq_ok.1 h
    refine ⟨hok, ?_⟩
    rw [encode, data_eq_cls, hdata, ← packSel_fields, hconv]
  | code2c | code2rh | stdec | alunpack =>
    simp only [decodeOp, whenUnusedZero_eq_ok, beq_iff_eq, Except.ok.injEq] at h
    obtain ⟨hsel, rfl⟩ := h
    exact ⟨rfl, by rw [encode, hsel]⟩
  | singleShot =>
    simp only [decodeOp, whenUnusedZero_eq_ok, whenRes_eq_ok, Bool.and_eq_true, beq_iff_eq,
      Except.ok.injEq] at h
    obtain ⟨⟨⟨hcad, hthr⟩, hdata⟩, hres, rfl⟩ := h
    refine ⟨hres, ?_⟩
    rw [encode, ← packSel_fields, hcad, hthr, hdata]
  | startPeriodic =>
    simp only [decodeOp, whenUnusedZero_eq_ok, whenRes_eq_ok, whenCad_eq_ok, Bool.and_eq_true,
      Bool.not_eq_true', beq_iff_eq, Except.ok.injEq] at h
    obtain ⟨⟨⟨hconv, hthr⟩, hdata⟩, hcad, hres, rfl⟩ := h
    refine ⟨by simp [WellFormed, wellFormed, hcad, hres], ?_⟩
    rw [encode, ← packSel_fields, hconv, hthr, hdata]
  | fetch =>
    simp only [decodeOp, whenUnusedZero_eq_ok, beq_iff_eq, low23_eq_zero_iff, Except.ok.injEq] at h
    obtain ⟨⟨hthr, hcad, hres, hdata⟩, rfl⟩ := h
    refine ⟨rfl, ?_⟩
    rw [encode, ← packSel_fields, hthr, hcad, hres, hdata]
  | alertRead | alertWrite =>
    simp only [decodeOp, whenUnusedZero_eq_ok, Bool.and_eq_true, Bool.not_eq_true', beq_iff_eq,
      low21_eq_zero_iff, Except.ok.injEq] at h
    obtain ⟨⟨hconv, hcad, hres, hdata⟩, rfl⟩ := h
    refine ⟨rfl, ?_⟩
    rw [encode, ← packSel_fields, hconv, hcad, hres, hdata]
  | _ =>
    obtain ⟨⟨hsel, hdata⟩, rfl⟩ := noOperand_eq_ok.1 h
    exact ⟨rfl, by rw [hsel, hdata]; rfl⟩

/-- Settles O2: an accepted request is rebuilt from its three fields, an accepted command word from the
name it was found under. -/
theorem decodeOnlyEncodings : Obligations.DecodeOnlyEncodings := by
  intro p e i h
  cases e with
  | request w =>
    simp only [decode, decodeReq] at h
    split at h
    · next o ho =>
      obtain ⟨hwf, henc⟩ := encode_of_decodeOp p h
      rw [henc, opNumber_of_opOfNumber? ho, packReq_fields]
      exact ⟨hwf, rfl⟩
    · cases h
  | command c =>
    simp only [decode, decodeCommand] at h
    split at h
    · next n hn =>
      cases h
      exact ⟨wellFormed_commandInstr n, by rw [encode_commandInstr, cmdWord_of_commandName? hn]⟩
    · cases h

end Sys2Proof
end

section
/-! The forms of the operations: which operation body an instruction runs. The host operation and its
command words share one body (log 7, log 8), so each fact is proved of the body once. -/

namespace Sys2Proof.Machine
open Sys2Proof.Config Sys2Proof.Safety

/-! ## The body of each form -/

theorem exec_of_mem_singleShotForms {r : Resolution} {conv : Bool} {i : Instr}
    (h : i ∈ singleShotForms r conv) (s : State) : exec i s = .next (singleShotOp r conv s) := by
  rcases List.mem_cons.1 h with rfl | hcommand
  · simp only [exec, execSingleShot, resolution?_bits]
  · cases conv with
    | true => cases hcommand
    | false =>
      obtain rfl := List.mem_singleton.1 hcommand
      cases r <;> rfl

theorem exec_of_mem_startPeriodicForms {c : Cadence} {r : Resolution} {i : Instr}
    (h : i ∈ startPeriodicForms c r) (s : State) : exec i s = .next (startPeriodicOp c r s) := by
  rcases List.mem_cons.1 h with rfl | hcommand
  · simp only [exec, execStartPeriodic, cadence?_bits, resolution?_bits]
  · obtain rfl := List.mem_singleton.1 hcommand
    cases c <;> cases r <;> rfl

theorem exec_of_mem_fetchForms {conv : Bool} {i : Instr} (h : i ∈ fetchForms conv) (s : State) :
    exec i s = .next (fetchOp conv s) := by
  rcases List.mem_cons.1 h with rfl | hcommand
  · rfl
  · cases conv with
    | true => cases hcommand
    | false =>
      obtain rfl := List.mem_singleton.1 hcommand
      rfl

theorem exec_of_brk {i : Instr} (h : i = .brk ∨ i = .cmdBreak) (s : State) :
    exec i s = .next (breakOp s) := by
  rcases h with rfl | rfl <;> rfl

theorem exec_of_reset {i : Instr} (h : i = .reset ∨ i = .cmdReset) (s : State) :
    exec i s = .next (resetOp s) := by
  rcases h with rfl | rfl <;> rfl

theorem exec_of_mem_statusCommandForms {i : Instr} {f : FixedCmd} (h : (i, f) ∈ statusCommandForms)
    (s : State) : exec i s = .next (sendStatusCommand (opOf i) f s) := by
  simp only [statusCommandForms, List.mem_cons, Prod.mk.injEq, List.not_mem_nil, or_false] at h
  rcases h with ⟨rfl, rfl⟩ | ⟨rfl, rfl⟩ | ⟨rfl, rfl⟩ | ⟨rfl, rfl⟩ | ⟨rfl, rfl⟩ | ⟨rfl, rfl⟩ <;> rfl

theorem exec_of_mem_statusReadForms {i : Instr} (h : i ∈ statusReadForms) (s : State) :
    exec i s = .next (statusReadOp (opOf i) s) := by
  simp only [statusReadForms, List.mem_cons, List.not_mem_nil, or_false] at h
  rcases h with rfl | rfl | rfl <;> rfl

theorem exec_of_mem_predicateForms {i : Instr} {f : StatusFlag} (h : (i, f) ∈ predicateForms)
    (s : State) : exec i s = .next (predicateOp (opOf i) f s) := by
  simp only [predicateForms, List.mem_cons, Prod.mk.injEq, List.not_mem_nil, or_false] at h
  rcases h with ⟨rfl, rfl⟩ | ⟨rfl, rfl⟩ | ⟨rfl, rfl⟩ | ⟨rfl, rfl⟩ | ⟨rfl, rfl⟩ | ⟨rfl, rfl⟩ |
    ⟨rfl, rfl⟩ <;> rfl

theorem exec_of_mem_alertReadForms {thr : Threshold} {i : Instr} (h : i ∈ alertReadForms thr)
    (s : State) : exec i s = .next (alertReadOp thr s) := by
  cases thr <;> rcases List.mem_pair.1 h with rfl | rfl <;> rfl

theorem exec_of_mem_alertWriteForms {thr : Threshold} {i : Instr} (h : i ∈ alertWriteForms thr)
    (s : State) : exec i s = .next (alertWriteOp thr s) := by
  cases thr <;> rcases List.mem_pair.1 h with rfl | rfl <;> rfl

/-! ## The operation of each form -/

theorem opOf_of_mem_singleShotForms {r : Resolution} {conv : Bool} {i : Instr}
    (h : i ∈ singleShotForms r conv) : opOf i = .singleShot := by
  have hall : ∀ j ∈ singleShotForms r conv, opOf j = .singleShot := by
    cases r <;> cases conv <;> decide
  exact hall i h

theorem opOf_of_mem_startPeriodicForms {c : Cadence} {r : Resolution} {i : Instr}
    (h : i ∈ startPeriodicForms c r) : opOf i = .startPeriodic := by
  have hall : ∀ j ∈ startPeriodicForms c r, opOf j = .startPeriodic := by
    cases c <;> cases r <;> decide
  exact hall i h

theorem opOf_of_mem_fetchForms {conv : Bool} {i : Instr} (h : i ∈ fetchForms conv) :
    opOf i = .fetch := by
  have hall : ∀ j ∈ fetchForms conv, opOf j = .fetch := by cases conv <;> decide
  exact hall i h

theorem opOf_of_brk {i : Instr} (h : i = .brk ∨ i = .cmdBreak) : opOf i = .brk := by
  rcases h with rfl | rfl <;> rfl

theorem opOf_of_reset {i : Instr} (h : i = .reset ∨ i = .cmdReset) : opOf i = .reset := by
  rcases h with rfl | rfl <;> rfl

/-- The three operations that send one status command and end. -/
theorem opOf_of_mem_statusCommandForms {i : Instr} {f : FixedCmd} (h : (i, f) ∈ statusCommandForms) :
    opOf i ∈ [Op.heaterOn, .heaterOff, .clearStatus] := by
  have hall : ∀ x ∈ statusCommandForms, opOf x.1 ∈ [Op.heaterOn, .heaterOff, .clearStatus] := by
    decide
  exact hall (i, f) h

theorem opOf_of_mem_statusReadForms {i : Instr} (h : i ∈ statusReadForms) :
    opOf i ∈ [Op.statusRead, .statusFresh] := by
  have hall : ∀ j ∈ statusReadForms, opOf j ∈ [Op.statusRead, .statusFresh] := by decide
  exact hall i h

theorem opOf_of_mem_predicateForms {i : Instr} {f : StatusFlag} (h : (i, f) ∈ predicateForms) :
    opOf i ∈ predicateOps := by
  have hall : ∀ x ∈ predicateForms, opOf x.1 ∈ predicateOps := by decide
  exact hall (i, f) h

theorem opOf_of_mem_alertReadForms {thr : Threshold} {i : Instr} (h : i ∈ alertReadForms thr) :
    opOf i = .alertRead := by
  cases thr <;> rcases List.mem_pair.1 h with rfl | rfl <;> rfl

theorem opOf_of_mem_alertWriteForms {thr : Threshold} {i : Instr} (h : i ∈ alertWriteForms thr) :
    opOf i = .alertWrite := by
  cases thr <;> rcases List.mem_pair.1 h with rfl | rfl <;> rfl

/-! ## Every instruction has a form -/

/-- What an instruction is: a pure-unit operation, a protocol operation whose selectors are no legal
request, or a form of one protocol operation. -/
inductive Form (i : Instr) : Prop
  | pure (h : opOf i ∈ pureOps)
  | illFormed (h : wellFormed i = false) (hop : opOf i = .singleShot ∨ opOf i = .startPeriodic)
  | singleShot (r : Resolution) (conv : Bool) (h : i ∈ singleShotForms r conv)
  | startPeriodic (c : Cadence) (r : Resolution) (h : i ∈ startPeriodicForms c r)
  | fetch (conv : Bool) (h : i ∈ fetchForms conv)
  | brk (h : i = .brk ∨ i = .cmdBreak)
  | reset (h : i = .reset ∨ i = .cmdReset)
  | statusCommand (f : FixedCmd) (h : (i, f) ∈ statusCommandForms)
  | statusRead (h : i ∈ statusReadForms)
  | predicate (f : StatusFlag) (h : (i, f) ∈ predicateForms)
  | alertRead (thr : Threshold) (h : i ∈ alertReadForms thr)
  | alertWrite (thr : Threshold) (h : i ∈ alertWriteForms thr)

theorem resolution?_eq_none {b : BitVec 2} : resolution? b = none ↔ resOk b = false := by
  decide +revert

theorem cadence?_eq_none {b : BitVec 3} : cadence? b = none ↔ cadOk b = false := by
  decide +revert

theorem form_singleShot (res : BitVec 2) (conv : Bool) : Form (.singleShot res conv) := by
  cases h : resolution? res with
  | none => exact .illFormed (resolution?_eq_none.1 h) (.inl rfl)
  | some r =>
    rw [resolution?_eq_some.1 h]
    exact .singleShot r conv List.mem_cons_self

theorem form_startPeriodic (cad : BitVec 3) (res : BitVec 2) : Form (.startPeriodic cad res) := by
  cases hc : cadence? cad with
  | none => exact .illFormed (by simp [wellFormed, cadence?_eq_none.1 hc]) (.inr rfl)
  | some c =>
    cases hr : resolution? res with
    | none => exact .illFormed (by simp [wellFormed, resolution?_eq_none.1 hr]) (.inr rfl)
    | some r =>
      rw [cadence?_eq_some.1 hc, resolution?_eq_some.1 hr]
      exact .startPeriodic c r List.mem_cons_self

theorem form_commandInstr (n : Cmd) : Form (commandInstr n) := by
  cases n with
  | single r => exact .singleShot r false (by cases r <;> decide)
  | periodic c r => exact .startPeriodic c r (by cases c <;> cases r <;> decide)
  | alertRead t => exact .alertRead t (by cases t <;> decide)
  | alertWrite t => exact .alertWrite t (by cases t <;> decide)
  | fixed f =>
    cases f with
    | fetch => exact .fetch false (by decide)
    | brk => exact .brk (.inr rfl)
    | reset => exact .reset (.inr rfl)
    | heaterOn => exact .statusCommand .heaterOn (by decide)
    | heaterOff => exact .statusCommand .heaterOff (by decide)
    | statusRead => exact .statusRead (by decide)
    | statusClear => exact .statusCommand .statusClear (by decide)

theorem form (i : Instr) : Form i := by
  by_cases hrow : ∃ n ∈ allCmds, commandInstr n = i
  · obtain ⟨n, -, rfl⟩ := hrow
    exact form_commandInstr n
  cases i with
  | singleShot res conv => exact form_singleShot res conv
  | startPeriodic cad res => exact form_startPeriodic cad res
  | fetch conv => exact .fetch conv List.mem_cons_self
  | brk => exact .brk (.inl rfl)
  | reset => exact .reset (.inl rfl)
  | heaterOn => exact .statusCommand .heaterOn (by decide)
  | heaterOff => exact .statusCommand .heaterOff (by decide)
  | clearStatus => exact .statusCommand .statusClear (by decide)
  | statusRead | statusFresh => exact .statusRead (by decide)
  | alertRead thr => exact .alertRead (threshold thr) (by decide +revert)
  | alertWrite thr => exact .alertWrite (threshold thr) (by decide +revert)
  | isAlertPending => exact .predicate .alertPending (by decide)
  | isHeaterOn => exact .predicate .heaterEnabled (by decide)
  | isHumidityAlert => exact .predicate .humidityAlert (by decide)
  | isTemperatureAlert => exact .predicate .temperatureAlert (by decide)
  | isResetDetected => exact .predicate .resetDetected (by decide)
  | isCommandFailed => exact .predicate .commandFailed (by decide)
  | isWriteCrcFailed => exact .predicate .writeDataCrcFailed (by decide)
  | crc8 | code2c | code2rh | c2code | rh2code | stdec | cmdenc | alpack | alunpack =>
    exact .pure (by simp [opOf, pureOps])
  | _ => exact absurd (by decide) hrow

/-- The predicates are the instructions that perform a predicate operation. -/
theorem exists_mem_predicateForms {i : Instr} (h : opOf i ∈ predicateOps) :
    ∃ f, (i, f) ∈ predicateForms := by
  revert h
  cases i <;> simp [opOf, predicateOps, predicateForms]

theorem exists_mem_fetchForms {i : Instr} (h : opOf i = .fetch) : ∃ conv, i ∈ fetchForms conv := by
  revert h
  cases i <;> simp [opOf, fetchForms]

end Sys2Proof.Machine
end

section
/-! What each form of a protocol operation does after its first step (R176, R30): the frame it hands to
BusWrite, and how it goes on. -/

namespace Sys2Proof.Machine
open Sys2Proof.Config Sys2Proof.Safety

/-- The state in which the operation of `i` makes its BusWrite: the cache as its first step leaves it
(R176), FSM as it stands inside the operation (R30). -/
def begun (i : Instr) (s : State) : State := { s with stCache := started i s, fsm := fsmInside i s }

theorem start_opOf (i : Instr) (s : State) : start (opOf i) s = { s with stCache := started i s } :=
  start_eq (opOf i) s

/-- Only SINGLE_SHOT and FETCH move FSM before they end. -/
theorem begun_eq_start {i : Instr} (hs : opOf i ≠ .singleShot) (hf : opOf i ≠ .fetch) (s : State) :
    begun i s = start (opOf i) s := by
  rw [start_opOf, begun, fsmInside, if_neg hs, if_neg hf]

theorem begun_singleShot {i : Instr} (h : opOf i = .singleShot) (s : State) :
    begun i s = { start .singleShot s with fsm := .singleShotPending } := by
  rw [← h, start_opOf, begun, fsmInside, if_pos h]

theorem begun_fetch {i : Instr} (h : opOf i = .fetch) (s : State) :
    begun i s = { start .fetch s with fsm := .fetchPending } := by
  rw [← h, start_opOf, begun, fsmInside, if_neg (by rw [h]; decide), if_pos h]

@[simp] theorem begun_params (i : Instr) (s : State) : (begun i s).params = s.params := rfl

@[simp] theorem activeSession_begun (i : Instr) (s : State) :
    activeSession (begun i s) = activeSession s := rfl

@[simp] theorem quiescent_begun (i : Instr) (s : State) : quiescent (begun i s) = quiescent s := rfl

/-- The use of a data block: only after its check (R56, R251). -/
def checkedWord (k : Word → State → State) (bytes : List Byte) (s : State) : State :=
  match blockWord s.params bytes 0 with
  | none => raise .checksumMismatch s
  | some w => k w s

theorem checkedWord_bad (k : Word → State → State) {bytes : List Byte} {s : State}
    (h : blockWord s.params bytes 0 = none) : checkedWord k bytes s = raise .checksumMismatch s := by
  rw [checkedWord, h]

theorem checkedWord_good (k : Word → State → State) {bytes : List Byte} {d0 d1 : Byte} {s : State}
    (h : bytes = goodBlockBytes s.params d0 d1) :
    checkedWord k bytes s = k (busWord s.params.wordOrder d0 d1) s := by
  simp only [h, checkedWord, goodBlockBytes, blockWord_zero, if_true]

/-- A status read delivers the word to the cache and to the host (R174). -/
def cacheStatus (w : Word) (s : State) : State := putStatus w { s with stCache := some w }

theorem statusMiss_eq (k : State → State) (s : State) :
    statusMiss k s =
      let c := cmdFixed s.params.cmd .statusRead
      writeThen (cmdBytes c) s fun s1 =>
        readThen 3 (recordAbf c s1) (checkedWord fun w s2 => k (cacheStatus w s2)) := rfl

section
variable {i : Instr} (s : State)

theorem exec_singleShot {r : Resolution} {conv : Bool} (h : i ∈ singleShotForms r conv) :
    exec i s = .next (
      let c := cmdSingle s.params.cmd r
      writeThen (cmdBytes c) (begun i s) fun s1 =>
        readThen 6 (wait (tConv r) (recordAbf c s1)) (finishSample conv)) := by
  rw [exec_of_mem_singleShotForms h, begun_singleShot (opOf_of_mem_singleShotForms h), singleShotOp]

theorem exec_startPeriodic {c : Cadence} {r : Resolution} (h : i ∈ startPeriodicForms c r) :
    exec i s = .next (
      let w := cmdPeriodic s.params.cmd c r
      writeThen (cmdBytes w) (begun i s) fun s1 =>
        done (record w { wait (tConv r) s1 with
          cadence := cadenceBits c, resolution := resolutionBits r })) := by
  have hop := opOf_of_mem_startPeriodicForms h
  rw [exec_of_mem_startPeriodicForms h, begun_eq_start (by simp [hop]) (by simp [hop]), hop]
  rfl

/-- FETCH where the validation passes (R204). -/
theorem exec_fetch_active {conv : Bool} (h : i ∈ fetchForms conv) {c : Cadence} {r : Resolution}
    (ha : activeSession s = some (c, r)) :
    exec i s = .next (
      writeThen (cmdBytes (cmdFixed s.params.cmd .fetch)) (begun i s) fun s1 =>
        fetchLoop conv retryBudget
          { s1 with retry := BitVec.ofNat 3 retryBudget, waitUs := BitVec.ofNat 21 (tInterval c) }) := by
  rw [exec_of_mem_fetchForms h, begun_fetch (opOf_of_mem_fetchForms h), fetchOp, ha]
  simp only [fetchSession, start_params]

/-- FETCH where it does not (R204, R254). -/
theorem exec_fetch_inactive (h : opOf i = .fetch) (ha : sessionActive s = false) :
    exec i s = .next (raise .noActiveAcquisition (start .fetch s)) := by
  have hnone : activeSession s = none := by simpa [sessionActive] using ha
  obtain ⟨conv, hi⟩ := exists_mem_fetchForms h
  rw [exec_of_mem_fetchForms hi, fetchOp, hnone]

theorem exec_brk (h : i = .brk ∨ i = .cmdBreak) :
    exec i s = .next (
      let c := cmdFixed s.params.cmd .brk
      writeThen (cmdBytes c) (begun i s) fun s1 => done (record c s1)) := by
  have hop := opOf_of_brk h
  rw [exec_of_brk h, begun_eq_start (by simp [hop]) (by simp [hop]), hop, breakOp]

theorem exec_reset (h : i = .reset ∨ i = .cmdReset) :
    exec i s = .next (
      let c := cmdFixed s.params.cmd .reset
      writeThen (cmdBytes c) (begun i s) fun s1 => done (wait tReset (recordAbf c s1))) := by
  have hop := opOf_of_reset h
  rw [exec_of_reset h, begun_eq_start (by simp [hop]) (by simp [hop]), hop, resetOp]

theorem exec_statusCommand {f : FixedCmd} (h : (i, f) ∈ statusCommandForms) :
    exec i s = .next (
      let c := cmdFixed s.params.cmd f
      writeThen (cmdBytes c) (begun i s) fun s1 => done (recordAbf c s1)) := by
  have hop := opOf_of_mem_statusCommandForms h
  have hs : opOf i ≠ .singleShot := fun he => absurd (he ▸ hop) (by decide)
  have hf : opOf i ≠ .fetch := fun he => absurd (he ▸ hop) (by decide)
  rw [exec_of_mem_statusCommandForms h, begun_eq_start hs hf, sendStatusCommand]

theorem begun_statusRead (h : i ∈ statusReadForms) : begun i s = start (opOf i) s := by
  have hop := opOf_of_mem_statusReadForms h
  exact begun_eq_start (fun he => absurd (he ▸ hop) (by decide))
    (fun he => absurd (he ▸ hop) (by decide)) s

theorem begun_predicate (h : opOf i ∈ predicateOps) : begun i s = start (opOf i) s :=
  begun_eq_start (fun he => absurd (he ▸ h) (by decide)) (fun he => absurd (he ▸ h) (by decide)) s

/-- A status read that finds the cache empty (R174). -/
theorem statusThen_begun_miss (k : State → State) (hc : started i s = none) :
    statusThen k (begun i s) = statusMiss k (begun i s) := by
  simp [statusThen, begun, hc]

/-- A status read that finds a word (R174). -/
theorem statusThen_begun_hit (k : State → State) {w : Word} (hc : started i s = some w) :
    statusThen k (begun i s) = k (putStatus w (begun i s)) := by
  simp [statusThen, begun, hc]

theorem exec_statusRead (h : i ∈ statusReadForms) :
    exec i s = .next (statusThen done (begun i s)) := by
  rw [exec_of_mem_statusReadForms h, begun_statusRead s h, statusReadOp]

theorem exec_predicate {f : StatusFlag} (h : (i, f) ∈ predicateForms) :
    exec i s = .next (statusThen (testFlag f) (begun i s)) := by
  rw [exec_of_mem_predicateForms h, begun_predicate s (opOf_of_mem_predicateForms h), predicateOp]

theorem exec_alertRead {thr : Threshold} (h : i ∈ alertReadForms thr) :
    exec i s = .next (
      let c := cmdAlertRead s.params.cmd thr
      writeThen (cmdBytes c) (begun i s) fun s1 =>
        readThen 3 (recordAbf c s1) (checkedWord fun w s2 => done (putAlert w s2))) := by
  have hop := opOf_of_mem_alertReadForms h
  rw [exec_of_mem_alertReadForms h, begun_eq_start (by simp [hop]) (by simp [hop]), hop]
  rfl

/-- ALERT_WRITE of two operands in their domains (R233). -/
theorem exec_alertWrite {thr : Threshold} (h : i ∈ alertWriteForms thr) {x y : ℤ}
    (hx : celsius? s.a0 = some x) (hy : percent? s.a1 = some y) :
    exec i s = .next (
      let tc := tCodeWord s.params.invRounding x
      let hc := rhCodeWord s.params.invRounding y
      let w := alPack tc hc
      let c := cmdAlertWrite s.params.cmd thr
      writeThen (alertFrame s.params c w) (begun i s) fun s1 =>
        done { wait tAlertWrite (recordAbf c s1) with
          rTcode := tc, rRhcode := hc, rWord := w, rCrc := wordCrc s.params w }) := by
  have hop := opOf_of_mem_alertWriteForms h
  rw [exec_of_mem_alertWriteForms h, begun_eq_start (by simp [hop]) (by simp [hop]), hop, alertWriteOp,
    hx, hy]

/-- ALERT_WRITE with an operand outside its domain (R233). -/
theorem exec_alertWrite_refused {thr : Threshold} (h : i ∈ alertWriteForms thr)
    (hd : celsius? s.a0 = none ∨ percent? s.a1 = none) :
    exec i s = .next (raise .invalidRequest s) := by
  rw [exec_of_mem_alertWriteForms h, alertWriteOp]
  rcases hd with hx | hy
  · rw [hx]
  · rw [hy]
    cases celsius? s.a0 <;> rfl

end

/-! ## The BusWrite of an operation -/

/-- Whatever operation hands over a frame does so from the state after its first step. -/
theorem exec_of_sendsFrame {i : Instr} {bytes : List Byte} {s : State} (h : SendsFrame i bytes s) :
    ∃ k, exec i s = .next (writeThen bytes (begun i s) k) := by
  rcases h with ⟨r, conv, hi, rfl⟩ | ⟨c, r, hi, rfl⟩ | ⟨conv, hi, ha, rfl⟩ | ⟨hi, rfl⟩ | ⟨hi, rfl⟩ |
    ⟨f, hi, rfl⟩ | ⟨hi, hc, rfl⟩ | ⟨thr, hi, rfl⟩ | ⟨thr, x, y, hi, hx, hy, rfl⟩
  · exact ⟨_, exec_singleShot s hi⟩
  · exact ⟨_, exec_startPeriodic s hi⟩
  · obtain ⟨c, r, ha⟩ := sessionActive_iff_exists_activeSession.1 ha
    exact ⟨_, exec_fetch_active s hi ha⟩
  · exact ⟨_, exec_brk s hi⟩
  · exact ⟨_, exec_reset s hi⟩
  · exact ⟨_, exec_statusCommand s hi⟩
  · rcases hi with hi | hop
    · exact ⟨_, (exec_statusRead s hi).trans (congrArg _ (statusThen_begun_miss s _ hc))⟩
    · obtain ⟨f, hi⟩ := exists_mem_predicateForms hop
      exact ⟨_, (exec_predicate s hi).trans (congrArg _ (statusThen_begun_miss s _ hc))⟩
  · exact ⟨_, exec_alertRead s hi⟩
  · exact ⟨_, exec_alertWrite s hi hx hy⟩

/-- Settles O44: the failed write is the last thing that happens after the first step, whatever would
have followed it. -/
theorem writeFailureEndsOperation : Obligations.WriteFailureEndsOperation := by
  intro i bytes s a code ws hsend hcode hw
  obtain ⟨k, hk⟩ := exec_of_sendsFrame hsend
  rcases hcode with ⟨rfl, rfl⟩ | ⟨rfl, rfl⟩
  · rw [hk, writeThen_nack bytes k (ws := ws) (by exact hw)]
    rfl
  · rw [hk, writeThen_ioErr bytes k (ws := ws) (by exact hw)]
    rfl

/-! ## The single BusRead of an operation -/

/-- What `k` does with a received frame of `n` bytes whose check fails (R251). -/
def RefusesBadBlocks (n : ℕ) (k : List Byte → State → State) : Prop :=
  ∀ (bytes : List Byte) (u : State),
    (blockWord u.params bytes 0 = none ∨ n = 6 ∧ blockWord u.params bytes 3 = none) →
    k bytes u = raise .checksumMismatch u

theorem finishSample_refusesBadBlocks (conv : Bool) : RefusesBadBlocks 6 (finishSample conv) := by
  intro bytes u hbad
  have hnone : decodeSample u.params bytes = none := by
    rcases hbad with h | ⟨-, h⟩
    · rw [decodeSample, h]
    · rw [decodeSample, h]
      cases blockWord u.params bytes 0 <;> rfl
  rw [finishSample, hnone]

theorem checkedWord_refusesBadBlocks (k : Word → State → State) :
    RefusesBadBlocks 3 (checkedWord k) := by
  rintro bytes u (h | ⟨h, -⟩)
  · exact checkedWord_bad k h
  · cases h

/-- What a successful write leaves before the read: the record under AllButFetch (R26), and the events of
the waits between. -/
def afterCommand (c : Word) (waits : List Event) (s : State) : State :=
  { s with lastCmd := recorded s c, trace := s.trace ++ waits }

theorem recordAbf_eq_afterCommand (c : Word) (s : State) : recordAbf c s = afterCommand c [] s := by
  rw [recordAbf_recorded, afterCommand, List.append_nil]

theorem wait_recordAbf (us : Nat) (c : Word) (s : State) :
    wait us (recordAbf c s) = afterCommand c [.waited us us .elapsed] s := by
  rw [recordAbf_recorded]
  rfl

/-- The operations of one read: the command, the waits between, the read, and a check before use. -/
theorem exec_of_readsOnce {i : Instr} {c : Word} {n : ℕ} {waits : List Event} {s : State}
    (h : ReadsOnce i c n waits s) :
    ∃ k, RefusesBadBlocks n k ∧
      exec i s = .next (writeThen (cmdBytes c) (begun i s) fun s1 =>
        readThen n (afterCommand c waits s1) k) := by
  rcases h with ⟨r, conv, hi, rfl, rfl, rfl⟩ | ⟨hi, hc, rfl, rfl, rfl⟩ | ⟨thr, hi, rfl, rfl, rfl⟩
  · refine ⟨_, finishSample_refusesBadBlocks conv, ?_⟩
    simp only [exec_singleShot s hi, wait_recordAbf]
  · rcases hi with hi | hop
    · refine ⟨_, checkedWord_refusesBadBlocks fun w u => done (cacheStatus w u), ?_⟩
      rw [exec_statusRead s hi, statusThen_begun_miss s _ hc, statusMiss_eq]
      simp only [recordAbf_eq_afterCommand, begun_params]
    · obtain ⟨f, hi⟩ := exists_mem_predicateForms hop
      refine ⟨_, checkedWord_refusesBadBlocks fun w u => testFlag f (cacheStatus w u), ?_⟩
      rw [exec_predicate s hi, statusThen_begun_miss s _ hc, statusMiss_eq]
      simp only [recordAbf_eq_afterCommand, begun_params]
  · refine ⟨_, checkedWord_refusesBadBlocks fun w u => done (putAlert w u), ?_⟩
    simp only [exec_alertRead s hi, recordAbf_eq_afterCommand]

/-- Settles O45: after the command and its waits the read fails, or brings a frame that the check
refuses. -/
theorem readFailureEndsOperation : Obligations.ReadFailureEndsOperation := by
  intro i c n waits s a code ws rs honce hcode hw hr
  obtain ⟨k, hk, hexec⟩ := exec_of_readsOnce honce
  rw [hexec, writeThen_ok _ _ (ws := ws) (by exact hw)]
  rcases hcode with ⟨rfl, rfl⟩ | ⟨rfl, rfl⟩ | ⟨bytes, rfl, hlen, rfl, hbad⟩
  · rw [readThen_nack n k (rs := rs) (by exact hr)]
    simp only [afterCommand, List.append_assoc]
    rfl
  · rw [readThen_ioErr n k (rs := rs) (by exact hr)]
    simp only [afterCommand, List.append_assoc]
    rfl
  · rw [readThen_ok k (rs := rs) (by exact hr) hlen, hk bytes _ (by exact hbad)]
    simp only [afterCommand, List.append_assoc]
    rfl

end Sys2Proof.Machine
end

section
/-! FETCH in an active session (R204 to R206, R210): what the retry loop comes to after a number of refused
reads, and the ends it can have from there. -/

namespace Sys2Proof.Machine
open Sys2Proof.Config Sys2Proof.Safety

/-! ## The schedule of the waits (R205) -/

theorem retryWaits_succ (t k : ℕ) : retryWaits t (k + 1) = retryWaits t k ++ [retryWait t k] := by
  cases k with
  | zero => rfl
  | succ k => simp [retryWaits, retryWait, List.replicate_succ']

theorem refusedReads_succ (t k : ℕ) :
    refusedReads (retryWaits t (k + 1)) =
      refusedReads (retryWaits t k) ++
        [.read 6 .nack, .waited (retryWait t k) (retryWait t k) .elapsed] := by
  rw [retryWaits_succ]
  simp [refusedReads]

/-- Every wait of a FETCH fits WAIT_US (R29). -/
theorem waitUsAfter_toNat (c : Cadence) (k : ℕ) :
    (waitUsAfter (tInterval c) k).toNat = retryWait (tInterval c) k := by
  cases k <;> cases c <;> rfl

/-- WAIT_US after one more wait: divided after the first, then kept (R205). -/
theorem waitUsAfter_succ (c : Cadence) {j m : ℕ} (hm : m + 1 = 5 - j) :
    (if m + 1 = retryBudget then waitUsAfter (tInterval c) j / BitVec.ofNat 21 backoffDiv
      else waitUsAfter (tInterval c) j) = waitUsAfter (tInterval c) (j + 1) := by
  cases j with
  | zero =>
    rw [if_pos (show m + 1 = retryBudget from hm)]
    cases c <;> rfl
  | succ j =>
    rw [if_neg (by simp only [retryBudget]; omega)]
    rfl

/-! ## The loop after refused reads -/

/-- The state of a FETCH at cadence `c` after `k` refused reads and full waits: the scripts that are left,
and `es` added to the trace. -/
def atRetry (c : Cadence) (k : ℕ) (rs : List (Option ReadAnswer)) (gs : List Signal) (es : List Event)
    (s : State) : State :=
  { s with
    retry := BitVec.ofNat 3 (5 - k), waitUs := waitUsAfter (tInterval c) k
    readScript := rs, waitScript := gs, trace := s.trace ++ es }

/-- One more refused read, and the wait after it that nobody aborts. -/
theorem fetchLoop_atRetry_nack (conv : Bool) (c : Cadence) {k : ℕ} (hk : k < 5)
    (rs : List (Option ReadAnswer)) (gs : List Signal) (es : List Event) (s : State) :
    fetchLoop conv (5 - k) (atRetry c k (some .nack :: rs) (.quiet :: gs) es s) =
      fetchLoop conv (5 - (k + 1)) (atRetry c (k + 1) rs gs
        (es ++ [.read 6 .nack,
          .waited (retryWait (tInterval c) k) (retryWait (tInterval c) k) .elapsed]) s) := by
  obtain ⟨m, hm⟩ : ∃ m, 5 - k = m + 1 := ⟨4 - k, by omega⟩
  rw [hm, fetchLoop_nack (rs := rs) (g := .quiet) (gs := gs) rfl rfl]
  simp only [waitResult, atRetry, waitUsAfter_toNat, waitUsAfter_succ c hm.symm, List.append_assoc,
    List.cons_append, List.nil_append, show 5 - (k + 1) = m by omega]

theorem fetchLoop_atRetry_refused (conv : Bool) (c : Cadence) {k : ℕ} (hk : k ≤ 5)
    (rs : List (Option ReadAnswer)) (gs : List Signal) (s : State) :
    fetchLoop conv 5
        (atRetry c 0 (List.replicate k (some .nack) ++ rs) (List.replicate k .quiet ++ gs) [] s) =
      fetchLoop conv (5 - k) (atRetry c k rs gs (refusedReads (retryWaits (tInterval c) k)) s) := by
  induction k generalizing rs gs with
  | zero => rfl
  | succ k ih =>
    rw [List.replicate_succ', List.replicate_succ', List.append_assoc, List.append_assoc,
      ih (by omega), List.singleton_append, List.singleton_append,
      fetchLoop_atRetry_nack conv c (by omega), refusedReads_succ]

/-- The state of a FETCH whose command is sent and whose first `k` reads are refused. -/
def fetching (i : Instr) (c : Cadence) (k : ℕ) (ws : List (Option WriteAnswer))
    (rs : List (Option ReadAnswer)) (gs : List Signal) (s : State) : State :=
  { s with
    stCache := started i s, fsm := .fetchPending
    retry := BitVec.ofNat 3 (5 - k), waitUs := waitUsAfter (tInterval c) k
    writeScript := ws, readScript := rs, waitScript := gs
    trace := s.trace ++ ([.write (cmdBytes (cmdFixed s.params.cmd .fetch)) .ok] ++
      refusedReads (retryWaits (tInterval c) k)) }

section
variable {conv : Bool} {i : Instr} {s : State} {c : Cadence} {r : Resolution} {k : ℕ}
  {ws : List (Option WriteAnswer)} {rs : List (Option ReadAnswer)} {gs : List Signal}

theorem exec_fetch_refused (hk : k ≤ 5) (hi : i ∈ fetchForms conv)
    (ha : activeSession s = some (c, r)) (hw : s.writeScript = some .ok :: ws)
    (hr : s.readScript = List.replicate k (some .nack) ++ rs)
    (hg : s.waitScript = List.replicate k .quiet ++ gs) :
    exec i s = .next (fetchLoop conv (5 - k) (fetching i c k ws rs gs s)) := by
  rw [exec_fetch_active s hi ha, writeThen_ok _ _ (ws := ws) (by exact hw)]
  have hloop := fetchLoop_atRetry_refused conv c hk rs gs
    { begun i s with
      writeScript := ws
      trace := s.trace ++ [.write (cmdBytes (cmdFixed s.params.cmd .fetch)) .ok] }
  have hfsm : fsmInside i s = .fetchPending := by
    simp [fsmInside, opOf_of_mem_fetchForms hi]
  rw [← hr, ← hg] at hloop
  simp only [atRetry, begun, List.append_nil, hfsm, List.append_assoc] at hloop
  simp only [begun, hfsm]
  exact congrArg _ hloop

end

/-! ## The ends -/

theorem quiescent_of_activeSession {s : State} {x : Cadence × Resolution}
    (h : activeSession s = some x) : quiescent s = .continuousRunning := by
  simp [quiescent, sessionActive, h]

/-- A frame with two good checksums is delivered (R201, R202). -/
theorem finishSample_good (conv : Bool) {bytes : List Byte} {t0 t1 h0 h1 : Byte} {s : State}
    (h : bytes = goodFrameBytes s.params t0 t1 h0 h1) :
    finishSample conv bytes s =
      done (deliverSample conv (busWord s.params.wordOrder t0 t1) (busWord s.params.wordOrder h0 h1)
        s) := by
  simp [h, finishSample, goodFrameBytes, goodBlockBytes, decodeSample_six]

/-- A six-byte frame with a bad checksum in either block is refused (R201, R251). -/
theorem finishSample_bad (conv : Bool) {t0 t1 kt h0 h1 kh : Byte} {s : State}
    (h : blockCrc s.params t0 t1 ≠ kt ∨ blockCrc s.params h0 h1 ≠ kh) :
    finishSample conv [t0, t1, kt, h0, h1, kh] s = raise .checksumMismatch s := by
  rw [finishSample, decodeSample_six, if_neg (by tauto)]

/-- Settles O29: after the refused reads the loop meets a good frame. -/
theorem fetchCompletesAfterRetries : Obligations.FetchCompletesAfterRetries := by
  intro k conv i s c r t0 t1 h0 h1 ws rs gs frame tc hc t h hk hi ha hw hr hg
  rw [exec_fetch_refused hk hi ha hw hr hg, fetchLoop_ok (bytes := frame) (rs := rs) rfl rfl,
    finishSample_good conv (t0 := t0) (t1 := t1) (h0 := h0) (h1 := h1) (by rfl), deliverSample_eq, ← quiescent_of_activeSession ha]
  simp only [fetching, List.append_assoc]
  rfl

/-- Settles O30: five refused reads leave no retry for the sixth. -/
theorem fetchBudgetExhausted : Obligations.FetchBudgetExhausted := by
  intro conv i s c r ws rs gs hi ha hw hr hg
  rw [exec_fetch_refused (k := 5) (rs := some .nack :: rs) le_rfl hi ha hw hr hg,
    fetchLoop_exhausted (rs := rs) rfl, ← quiescent_of_activeSession ha]
  simp only [fetching, List.append_assoc]
  rfl

/-- Settles O31: after `k` refused reads one more is refused, and the wait after it is aborted. -/
theorem fetchAbortedInWait : Obligations.FetchAbortedInWait := by
  intro k e conv i s c r ws rs gs g o code hk he hg hi ha hw hr hgs
  rw [List.replicate_succ', List.append_assoc] at hr
  have hleft : 5 - k = (4 - k) + 1 := by omega
  rw [exec_fetch_refused (k := k) (by omega) hi ha hw hr hgs, ← quiescent_of_activeSession ha,
    hleft, fetchLoop_nack (rs := rs) (g := g) (gs := gs) rfl rfl]
  have hus : (fetching i c k ws ([some ReadAnswer.nack] ++ rs) (g :: gs) s).waitUs.toNat =
      retryWait (tInterval c) k := waitUsAfter_toNat c k
  have hwait : waitResult (retryWait (tInterval c) k) g = (o, e) := by
    rcases hg with ⟨rfl, rfl, -⟩ | ⟨rfl, rfl, -⟩ <;> simp [waitResult, he]
  simp only [hus, hwait]
  rcases hg with ⟨rfl, rfl, rfl⟩ | ⟨rfl, rfl, rfl⟩
  · simp only [fetching, hleft, List.append_assoc]
    rfl
  · simp only [fetching, hleft, List.append_assoc]
    rfl

/-- Settles O32: an error or a bad frame ends the loop where it stands. -/
theorem fetchFatalAnswers : Obligations.FetchFatalAnswers := by
  intro k conv i s c r a code ws rs gs hk hi ha hcode hw hr hg
  rw [exec_fetch_refused hk hi ha hw hr hg, ← quiescent_of_activeSession ha]
  rcases hcode with ⟨rfl, rfl⟩ | ⟨t0, t1, kt, h0, h1, kh, rfl, rfl, hbad⟩
  · rw [fetchLoop_ioErr (rs := rs) rfl]
    simp only [fetching, List.append_assoc]
    rfl
  · rw [fetchLoop_ok (rs := rs) rfl rfl, finishSample_bad conv (by exact hbad)]
    simp only [fetching, List.append_assoc]
    rfl

/-! ## The schedule as numbers (R210) -/

@[simp] theorem readCount_append (es fs : List Event) :
    readCount (es ++ fs) = readCount es + readCount fs := List.countP_append

@[simp] theorem writeCount_append (es fs : List Event) :
    writeCount (es ++ fs) = writeCount es + writeCount fs := List.countP_append

@[simp] theorem waitCount_append (es fs : List Event) :
    waitCount (es ++ fs) = waitCount es + waitCount fs := List.countP_append

@[simp] theorem waitedTotal_append (es fs : List Event) :
    waitedTotal (es ++ fs) = waitedTotal es + waitedTotal fs := by simp [waitedTotal]

theorem refusedReads_cons (w : ℕ) (ws : List ℕ) :
    refusedReads (w :: ws) = [.read 6 .nack, .waited w w .elapsed] ++ refusedReads ws := rfl

/-- Each refused read is one read and one wait. -/
theorem refusedReads_totals (ws : List ℕ) :
    writeCount (refusedReads ws) = 0 ∧ readCount (refusedReads ws) = ws.length ∧
      waitCount (refusedReads ws) = ws.length ∧ waitedTotal (refusedReads ws) = ws.sum := by
  induction ws with
  | nil => exact ⟨rfl, rfl, rfl, rfl⟩
  | cons w ws ih =>
    obtain ⟨hwrite, hread, hwait, htotal⟩ := ih
    rw [refusedReads_cons]
    simp only [writeCount_append, readCount_append, waitCount_append, waitedTotal_append, hwrite, hread,
      hwait, htotal, List.length_cons, List.sum_cons]
    exact ⟨rfl, Nat.add_comm _ _, Nat.add_comm _ _, by simp [waitedTotal]⟩

theorem retryWaits_length (t k : ℕ) : (retryWaits t k).length = k := by
  cases k <;> simp [retryWaits]

theorem retryWaits_sum (t k : ℕ) :
    (retryWaits t k).sum = if k = 0 then 0 else t + (k - 1) * (t / 10) := by
  cases k <;> simp [retryWaits]

/-- What a FETCH adds to the trace when its `k` refused reads are followed by one read more. -/
theorem fetch_events_totals (c : Word) (t k : ℕ) (a : ReadAnswer) :
    let es := [.write (cmdBytes c) .ok] ++ refusedReads (retryWaits t k) ++ [.read 6 a]
    readCount es = k + 1 ∧ waitCount es = k ∧
      waitedTotal es = if k = 0 then 0 else t + (k - 1) * (t / 10) := by
  obtain ⟨-, hread, hwait, htotal⟩ := refusedReads_totals (retryWaits t k)
  simp only [readCount_append, waitCount_append, waitedTotal_append, hread, hwait, htotal,
    retryWaits_length, retryWaits_sum]
  exact ⟨by simp [readCount], by simp [waitCount], by simp [waitedTotal]⟩

theorem finishSample_trace (conv : Bool) (bytes : List Byte) (s : State) :
    (finishSample conv bytes s).trace = s.trace := by
  rw [finishSample]
  split
  · rfl
  · rw [deliverSample_eq]
    rfl

/-- A read that is not refused is the loop's last event. -/
theorem fetchLoop_trace_of_ne_nack {conv : Bool} {n : ℕ} {s : State} {a : ReadAnswer}
    {rs : List (Option ReadAnswer)} (h : s.readScript = some a :: rs) (ha : a ≠ .nack) :
    (fetchLoop conv n s).trace = s.trace ++ [.read 6 (fitRead 6 a)] := by
  have hfit : fitRead 6 a ≠ .nack := by
    cases a with
    | ok bytes => rw [fitRead]; split <;> simp
    | nack => exact absurd rfl ha
    | ioErr => simp [fitRead]
  unfold fetchLoop
  rw [busRead_script 6 h]
  cases hf : fitRead 6 a with
  | ok bytes => exact finishSample_trace conv bytes _
  | nack => exact absurd hf hfit
  | ioErr => rfl

/-- Settles O33: the events are those of the refused reads and one read more, and each refused read is
followed by its wait. -/
theorem retryScheduleTotals : Obligations.RetryScheduleTotals := by
  intro conv i s c r ws rs gs full hi ha hw
  refine ⟨fun k a hk hne hr hg => ?answered, fun hr hg => ?exhausted⟩
  case answered =>
    refine ⟨_, _, exec_fetch_refused hk hi ha hw hr hg, ?_,
      fetch_events_totals (cmdFixed s.params.cmd .fetch) (tInterval c) k (fitRead 6 a)⟩
    rw [fetchLoop_trace_of_ne_nack (rs := rs) rfl hne]
    simp only [fetching, List.append_assoc]
  case exhausted =>
    obtain ⟨hread, hwait, htotal⟩ :=
      fetch_events_totals (cmdFixed s.params.cmd .fetch) (tInterval c) 5 .nack
    refine ⟨_, _, fetchBudgetExhausted conv i s c r ws rs gs hi ha hw hr hg, rfl, hread, hwait, ?_, rfl⟩
    rw [htotal]
    cases c <;> rfl

/-- Settles O46: the write and the single read hang where they are reached, and so does a read of the retry
loop; a block that waits for its transport has no input to take. -/
theorem hungTransaction : Obligations.HungTransaction := by
  refine ⟨?write, ?read, ?loop, ?stays⟩
  case write =>
    intro i bytes s ws hsend hw
    obtain ⟨k, hk⟩ := exec_of_sendsFrame hsend
    rw [hk, writeThen_hang bytes k (ws := ws) (by exact hw)]
    rfl
  case read =>
    intro i c n waits s ws rs honce hw hr
    obtain ⟨k, -, hexec⟩ := exec_of_readsOnce honce
    rw [hexec, writeThen_ok _ _ (ws := ws) (by exact hw), readThen_hang n k (rs := rs) (by exact hr)]
    simp only [afterCommand, List.append_assoc]
    rfl
  case loop =>
    intro k conv i s c r ws rs gs hk hi ha hw hr hg
    rw [exec_fetch_refused hk hi ha hw hr hg, fetchLoop_hang (rs := rs) rfl]
    rfl
  case stays =>
    intro s _ hinputs
    simp only [step, fetchNext, hinputs]

end Sys2Proof.Machine
end

section
/-! How the protocol operations complete when the transport answers `Ok`: each runs its transactions from the
state after its first step, and `done` ends it. -/

namespace Sys2Proof.Machine
open Sys2Proof.Config Sys2Proof.Safety

/-! ## Register/status model -/

theorem start_of_notMem {o : Op} {s : State} (h : o ∉ s.params.stInvalidators) : start o s = s :=
  if_neg h

/-- A status read that finds a word makes no transaction (R174). -/
theorem statusThen_hit (k : State → State) {s : State} {w : Word} (h : s.stCache = some w) :
    statusThen k s = k (putStatus w s) := by
  simp only [statusThen, h]

/-- Settles O23: a hit goes to the end of the operation at once, and the predicate tests the flag of the
delivered word. -/
theorem statusReadHit : Obligations.StatusReadHit := by
  intro i s w hcache hout
  refine ⟨fun hi => ?read, fun f hi => ?predicate⟩
  case read =>
    rw [exec_of_mem_statusReadForms hi, statusReadOp, start_of_notMem hout, statusThen_hit _ hcache]
    rfl
  case predicate =>
    rw [exec_of_mem_predicateForms hi, predicateOp, start_of_notMem hout, statusThen_hit _ hcache]
    simp only [testFlag, putStatus_rFlags, stDecode_getLsbD]
    rfl

/-- Settles O24: both transactions of the miss path, then `done`. -/
theorem statusMissCompletes : Obligations.StatusMissCompletes := by
  intro i s d0 d1 ws rs c block w hi hc hw hr
  rw [exec_statusRead s hi, statusThen_begun_miss s _ hc, begun_statusRead s hi, start_opOf,
    statusMiss_good (d0 := d0) (d1 := d1) (ws := ws) (rs := rs) _ (by exact hw) (by exact hr)]
  simp only [List.append_assoc]
  rfl

/-- Settles O25: the miss path, then the test of the flag that was just decoded. -/
theorem predicatesComplete : Obligations.PredicatesComplete := by
  intro i f s d0 d1 ws rs c block w hi hc hw hr
  rw [exec_predicate s hi, statusThen_begun_miss s _ hc,
    begun_predicate s (opOf_of_mem_predicateForms hi), start_opOf,
    statusMiss_good (d0 := d0) (d1 := d1) (ws := ws) (rs := rs) _ (by exact hw) (by exact hr)]
  simp only [testFlag, stDecode_getLsbD, List.append_assoc]
  rfl

/-- Settles O26: one write, then `done`. -/
theorem statusCommandsComplete : Obligations.StatusCommandsComplete := by
  intro i f s ws c hi hw
  rw [exec_of_mem_statusCommandForms hi, sendStatusCommand, start_opOf,
    writeThen_ok _ _ (ws := ws) (by exact hw), recordAbf_recorded]
  rfl

/-! ## Measurement protocol engine -/

/-- Settles O27: the command, the wait, and one read whose frame passes both checks. -/
theorem singleShotCompletes : Obligations.SingleShotCompletes := by
  intro r conv i s t0 t1 h0 h1 ws rs c frame tc hc t h hi hw hr
  rw [exec_singleShot s hi, writeThen_ok _ _ (ws := ws) (by exact hw), wait_recordAbf,
    readThen_ok (n := 6) (bytes := frame) (rs := rs) _ (by exact hr) rfl,
    finishSample_good conv (t0 := t0) (t1 := t1) (h0 := h0) (h1 := h1) (by rfl), deliverSample_eq]
  simp only [afterCommand, List.append_assoc]
  rfl

/-- A session that was just recorded is active: the registers hold what the opcode implies (R203). -/
theorem activeSession_of_recorded {s : State} {c : Cadence} {r : Resolution}
    (hcad : s.cadence = cadenceBits c) (hres : s.resolution = resolutionBits r)
    (hlc : s.lastCmd = some (cmdPeriodic s.params.cmd c r)) : activeSession s = some (c, r) := by
  refine activeSession_eq_some.2 ⟨_, hlc, ?_, ?_, ?_, rfl⟩
  · exact isPeriodic_cmdPeriodic _ c r
  · rw [hcad, cadence?_bits]
  · rw [hres, resolution?_bits]

/-- Settles O28: the descriptor and the opcode are recorded before `done` computes FSM. -/
theorem startPeriodicCompletes : Obligations.StartPeriodicCompletes := by
  intro c r i s ws w hi hw
  have hop := opOf_of_mem_startPeriodicForms hi
  rw [exec_startPeriodic s hi, begun_eq_start (by simp [hop]) (by simp [hop]), start_opOf,
    writeThen_ok _ _ (ws := ws) (by exact hw), done, endWith,
    quiescent_of_activeSession (activeSession_of_recorded (c := c) (r := r) rfl rfl rfl)]
  simp only [wait, logEvent, record, List.append_assoc]
  rfl

/-- No session is active where the recorded command is no periodic-start opcode (R32). -/
theorem activeSession_eq_none_of_not_periodic {s : State} {c : Word} (hlc : s.lastCmd = some c)
    (hc : isPeriodic s.params.cmd c = false) : activeSession s = none := by
  simp [activeSession, hlc, hc]

theorem quiescent_of_no_session {s : State} (h : activeSession s = none) : quiescent s = .idle := by
  simp [quiescent, sessionActive, h]

/-- Settles O36: the break opcode is no periodic-start opcode (R163), so no session is active after it. -/
theorem breakCompletes : Obligations.BreakCompletes := by
  intro i s ws c hi hw
  have hop := opOf_of_brk hi
  refine ⟨_, ?_, ?_, rfl⟩
  · rw [exec_brk s hi, begun_eq_start (by simp [hop]) (by simp [hop]), start_opOf,
      writeThen_ok _ _ (ws := ws) (by exact hw)]
    rfl
  · rintro ⟨-, hbrk, -⟩
    have hnone : activeSession { s with lastCmd := some c } = none :=
      activeSession_eq_none_of_not_periodic rfl hbrk
    exact ⟨congrArg Option.isSome hnone, quiescent_of_no_session hnone⟩

/-- Settles O37: the command, the power-up wait, then `done`. -/
theorem resetCompletes : Obligations.ResetCompletes := by
  intro i s ws c hi hw
  have hop := opOf_of_reset hi
  rw [exec_reset s hi, begun_eq_start (by simp [hop]) (by simp [hop]), start_opOf,
    writeThen_ok _ _ (ws := ws) (by exact hw), wait_recordAbf]
  simp only [afterCommand, List.append_assoc]
  rfl

/-! ## Alert-limit codec -/

/-- Settles O40: the command, and one read whose block passes its check. -/
theorem alertReadCompletes : Obligations.AlertReadCompletes := by
  intro thr i s d0 d1 ws rs c block w t h hi hw hr
  have hop := opOf_of_mem_alertReadForms hi
  rw [exec_alertRead s hi, begun_eq_start (by simp [hop]) (by simp [hop]), start_opOf,
    writeThen_ok _ _ (ws := ws) (by exact hw), recordAbf_recorded,
    readThen_ok (n := 3) (bytes := block) (rs := rs) _ (by exact hr) rfl, checkedWord_good _ (d0 := d0) (d1 := d1) (by rfl)]
  simp only [List.append_assoc]
  rfl

theorem busByte0_eq_ite (o : WordOrder) (w : Word) :
    busByte0 o w = if o = .msbFirst then hi8 w else lo8 w := by
  cases o <;> rfl

theorem busByte1_eq_ite (o : WordOrder) (w : Word) :
    busByte1 o w = if o = .msbFirst then lo8 w else hi8 w := by
  cases o <;> rfl

/-- Settles O41: one write of five bytes, then the wait and `done`. -/
theorem alertWriteCompletes : Obligations.AlertWriteCompletes := by
  intro thr i s x y ws c tc hc w d0 d1 hi hx hy hw
  have hop := opOf_of_mem_alertWriteForms hi
  rw [exec_alertWrite s hi hx hy, begun_eq_start (by simp [hop]) (by simp [hop]), start_opOf,
    writeThen_ok _ _ (ws := ws) (by exact hw), wait_recordAbf]
  simp only [afterCommand, List.append_assoc, alertFrame, wordCrc, busByte0_eq_ite, busByte1_eq_ite]
  rfl

end Sys2Proof.Machine
end

section
/-! The pure-unit operations (R64): each ends at once, with its result or with `InvalidRequest`. -/

namespace Sys2Proof.Machine
open Sys2Proof.Config Sys2Proof.Safety

/-! ## Checksum unit (R130 to R136) -/

/-- Settles O7: the operation writes its result and ends; the vectors are evaluated. -/
theorem crc8Completes : Obligations.Crc8Completes := by
  refine ⟨fun seed b0 b1 s => rfl, ?vectors⟩
  case vectors => decide +kernel

/-- A shift step is linear over GF(2): the polynomial is added where the top bits differ. -/
theorem crcShift_xor (g a b : Byte) : crcShift g (a ^^^ b) = crcShift g a ^^^ crcShift g b := by
  simp only [crcShift, BitVec.getLsbD_xor, BitVec.shiftLeft_xor_distrib]
  cases a.getLsbD 7 <;> cases b.getLsbD 7 <;> simp <;> grind

theorem crcShifts_xor (g : Byte) (n : ℕ) (a b : Byte) :
    crcShifts g n (a ^^^ b) = crcShifts g n a ^^^ crcShifts g n b := by
  induction n generalizing a b with
  | zero => rfl
  | succ n ih => rw [crcShifts, crcShift_xor, ih, ← crcShifts, ← crcShifts]

/-- The difference of two checksum steps is the checksum step of the differences. -/
theorem crcByte_xor (g c c' b b' : Byte) :
    crcByte g c b ^^^ crcByte g c' b' = crcByte g (c ^^^ c') (b ^^^ b') := by
  rw [crcByte, crcByte, crcByte, ← crcShifts_xor]
  congr 1
  ac_rfl

/-- The seed drops out of the difference of two checksums. -/
theorem crc8_xor (g s p0 p1 q0 q1 : Byte) :
    crc8 g s p0 p1 ^^^ crc8 g s q0 q1 = crc8 g 0#8 (p0 ^^^ q0) (p1 ^^^ q1) := by
  rw [crc8, crc8, crcByte_xor, crcByte_xor, BitVec.xor_self, crc8]

theorem hi8_xor (v w : Word) : hi8 (v ^^^ w) = hi8 v ^^^ hi8 w := BitVec.extractLsb'_xor

theorem lo8_xor (v w : Word) : lo8 (v ^^^ w) = lo8 v ^^^ lo8 w := BitVec.extractLsb'_xor

theorem hi8_word (b0 b1 : Byte) : hi8 (word b0 b1) = b0 := BitVec.extractLsb'_append_eq_left

theorem lo8_word (b0 b1 : Byte) : lo8 (word b0 b1) = b1 := BitVec.extractLsb'_append_eq_right

/-- No single payload bit has the checksum 0 at the default polynomial (R135). -/
theorem crc8_twoPow_ne_zero (i : Fin 16) :
    crc8 defaultParams.crcPoly 0#8 (hi8 (BitVec.twoPow 16 i)) (lo8 (BitVec.twoPow 16 i)) ≠ 0#8 := by
  revert i
  decide +kernel

/-- Settles O8: by affinity the flip changes the checksum by the checksum of the flipped bit alone. -/
theorem crc8SingleBitSensitive : Obligations.Crc8SingleBitSensitive := by
  refine ⟨crc8_xor, ?_⟩
  intro s b0 b1 i crc heq
  have hdiff := crc8_xor defaultParams.crcPoly s (hi8 (word b0 b1 ^^^ BitVec.twoPow 16 i))
    (lo8 (word b0 b1 ^^^ BitVec.twoPow 16 i)) b0 b1
  have hhi : hi8 (word b0 b1 ^^^ BitVec.twoPow 16 i) ^^^ b0 = hi8 (BitVec.twoPow 16 i) := by
    rw [hi8_xor, hi8_word, BitVec.xor_comm, ← BitVec.xor_assoc, BitVec.xor_self, BitVec.zero_xor]
  have hlo : lo8 (word b0 b1 ^^^ BitVec.twoPow 16 i) ^^^ b1 = lo8 (BitVec.twoPow 16 i) := by
    rw [lo8_xor, lo8_word, BitVec.xor_comm, ← BitVec.xor_assoc, BitVec.xor_self, BitVec.zero_xor]
  rw [hhi, hlo, show crc8 defaultParams.crcPoly s _ _ = _ from heq, BitVec.xor_self] at hdiff
  exact crc8_twoPow_ne_zero i hdiff.symm

/-! ## Unit conversion unit -/

/-- Settles O16: `done` after the write of both forms of the value. -/
theorem forwardConversionsComplete : Obligations.ForwardConversionsComplete :=
  fun _ _ => ⟨rfl, rfl⟩

/-- Settles O22: a decoded word is delivered, and the cache is not the operation's. -/
theorem stdecCompletes : Obligations.StdecCompletes := fun _ _ => rfl

/-- Settles O39: the codec alone, then `done`. -/
theorem alertCodecOperationsComplete : Obligations.AlertCodecOperationsComplete :=
  fun _ _ => ⟨rfl, rfl⟩

theorem physical?_eq_some {lo hi : ℤ} {f : Word32} {n : ℤ} :
    physical? lo hi f = some n ↔
      f32Finite f = true ∧ lo * f32Den ≤ f32Num f ∧ f32Num f ≤ hi * f32Den ∧ n = f32Num f := by
  rw [physical?, Option.ite_none_right_eq_some]
  simp only [Bool.and_eq_true, decide_eq_true_eq, Option.some.injEq, and_assoc, eq_comm (a := n)]

theorem physical?_eq_none {lo hi : ℤ} {f : Word32} :
    physical? lo hi f = none ↔
      f32Finite f = false ∨ f32Num f < lo * f32Den ∨ hi * f32Den < f32Num f := by
  simp [physical?, imp_iff_not_or, or_assoc]

theorem celsius?_eq_some {f : Word32} {n : ℤ} :
    celsius? f = some n ↔
      f32Finite f = true ∧ -45 * (f32Den : ℤ) ≤ f32Num f ∧ f32Num f ≤ 130 * (f32Den : ℤ) ∧
        n = f32Num f :=
  physical?_eq_some

theorem percent?_eq_some {f : Word32} {n : ℤ} :
    percent? f = some n ↔
      f32Finite f = true ∧ 0 ≤ f32Num f ∧ f32Num f ≤ 100 * (f32Den : ℤ) ∧ n = f32Num f := by
  rw [percent?, physical?_eq_some, zero_mul]

/-- Settles O17: the operand is accepted with its exact value, or refused. -/
theorem inverseConversionsCompleteOrRefuse : Obligations.InverseConversionsCompleteOrRefuse := by
  intro s refused
  refine ⟨fun hfin hlo hhi => ?celsius, fun hout => ?noCelsius, fun hfin hlo hhi => ?percent,
    fun hout => ?noPercent⟩
  case celsius =>
    rw [exec, execC2code, celsius?_eq_some.2 ⟨hfin, hlo, hhi, rfl⟩]
    rfl
  case noCelsius =>
    rw [exec, execC2code, celsius?, physical?_eq_none.2 hout]
    rfl
  case percent =>
    rw [exec, execRh2code, percent?_eq_some.2 ⟨hfin, hlo, hhi, rfl⟩]
    rfl
  case noPercent =>
    rw [exec, execRh2code, percent?, physical?_eq_none.2 (by simpa using hout)]
    rfl

/-- Settles O42: the domains are those of the operand tests, and ALERT_WRITE refuses before its first
step. -/
theorem physicalOperandDomains : Obligations.PhysicalOperandDomains :=
  ⟨fun _ _ => celsius?_eq_some, fun _ _ => percent?_eq_some,
    fun _ _ s hi hd => exec_alertWrite_refused s hi hd⟩

/-! ## Command table -/

/-- Settles O18: each class looks up the entry its selectors name. -/
theorem cmdencCompletes : Obligations.CmdencCompletes := by
  intro s c r thr t ok
  refine ⟨?single, ?periodic, rfl, rfl, rfl, rfl, rfl, rfl, rfl, rfl, rfl⟩
  case single => cases r <;> rfl
  case periodic => cases c <;> cases r <;> rfl

/-- CMDENC's look-up fails on every operand that is no legal request (R165). -/
theorem cmdencLookup_eq_none {t : CmdTable} {cls : BitVec 4} {res : BitVec 2} {cad : BitVec 3}
    {thr : BitVec 2} (h : cmdencOk cls res cad thr = false) :
    cmdencLookup t cls res cad thr = none := by
  simp only [cmdencOk] at h
  simp only [cmdencLookup]
  split <;> grind [resolution?_eq_none, cadence?_eq_none]

/-- Every operation refuses the operand bits that are no legal request. -/
theorem exec_of_illFormed {i : Instr} (h : wellFormed i = false) (s : State) :
    exec i s = .next (raise .invalidRequest s) := by
  cases i with
  | cmdenc cls res cad thr => rw [exec, execCmdenc, cmdencLookup_eq_none h]
  | singleShot res conv => rw [exec, execSingleShot, resolution?_eq_none.2 h]
  | startPeriodic cad res =>
    rw [exec, execStartPeriodic]
    cases hc : cadence? cad with
    | none => rfl
    | some c =>
      have hcad : cadOk cad = true := by
        rw [cadence?_eq_some.1 hc]
        cases c <;> rfl
      rw [resolution?_eq_none.2 (by simpa [wellFormed, hcad] using h)]
  | _ => cases h

/-- Settles O43. The refusal comes before any step of the operation. -/
theorem illFormedOperandsRefused : Obligations.IllFormedOperandsRefused :=
  fun _ s h => exec_of_illFormed h s

/-! ## Alert-limit codec -/

/-- Bits 8:0 of an alert word are the upper bits of the temperature code, bits 15:9 those of the humidity
code in their own places (R231). -/
theorem alPack_getLsbD (tc hc : Word) {i : ℕ} (hi : i < 16) :
    (alPack tc hc).getLsbD i = if i < 9 then tc.getLsbD (i + 7) else hc.getLsbD i := by
  simp only [alPack]
  interval_cases i <;> simp

theorem alertTcode_getLsbD (w : Word) {i : ℕ} (hi : i < 16) :
    (alertTcode w).getLsbD i = if i < 7 then false else w.getLsbD (i - 7) := by
  simp only [alertTcode]
  interval_cases i <;> simp

theorem alertRhcode_getLsbD (w : Word) {i : ℕ} (hi : i < 16) :
    (alertRhcode w).getLsbD i = if i < 9 then false else w.getLsbD i := by
  simp only [alertRhcode]
  interval_cases i <;> simp

/-- The bits of a temperature code that an alert word keeps. -/
theorem and_FF80_getLsbD (w : Word) {i : ℕ} (hi : i < 16) :
    (w &&& 0xFF80#16).getLsbD i = if i < 7 then false else w.getLsbD i := by
  interval_cases i <;> simp

/-- Settles O38: each field of the word has its own bits, so packing and splitting are compared bit by
bit. -/
theorem alertWordLaws : Obligations.AlertWordLaws := by
  refine ⟨fun w => ?roundTrip, fun tc hc => ⟨?tcode, ?rhcode⟩, fun tc hc => ⟨?humidity, ?temperature⟩⟩
  case roundTrip =>
    refine BitVec.eq_of_getLsbD_eq fun i hi => ?_
    rw [alPack_getLsbD _ _ hi, alertRhcode_getLsbD _ hi]
    split
    · rw [alertTcode_getLsbD _ (by omega), if_neg (by omega), Nat.add_sub_cancel]
    · rfl
  case tcode =>
    refine BitVec.eq_of_getLsbD_eq fun i hi => ?_
    rw [alertTcode_getLsbD _ hi, and_FF80_getLsbD _ hi]
    split
    · rfl
    · rw [alPack_getLsbD _ _ (by omega), if_pos (by omega), Nat.sub_add_cancel (by omega)]
  case rhcode =>
    refine BitVec.eq_of_getLsbD_eq fun i hi => ?_
    rw [alertRhcode_getLsbD _ hi, ← alertRhcode, alertRhcode_getLsbD _ hi]
    split
    · rfl
    · rw [alPack_getLsbD _ _ hi, if_neg (by omega)]
  case humidity =>
    refine BitVec.eq_of_getLsbD_eq fun i hi => ?_
    rw [BitVec.getLsbD_extractLsb', BitVec.getLsbD_extractLsb', alPack_getLsbD _ _ (by omega),
      if_neg (by omega)]
  case temperature =>
    refine BitVec.eq_of_getLsbD_eq fun i hi => ?_
    rw [BitVec.getLsbD_extractLsb', BitVec.getLsbD_extractLsb', alPack_getLsbD _ _ (by omega),
      if_pos (by omega), zero_add, Nat.add_comm]

/-! ## Received blocks (R55, R56, R133) -/

theorem word_toNat (b0 b1 : Byte) : (word b0 b1).toNat = b0.toNat * 256 + b1.toNat := by
  rw [word, BitVec.toNat_append, ← Nat.shiftLeft_add_eq_or_of_lt b1.isLt, Nat.shiftLeft_eq]

/-- The value of a word by the byte order of the bus (R55). -/
theorem busWord_toNat (o : WordOrder) (d0 d1 : Byte) :
    (busWord o d0 d1).toNat =
      match o with
      | .msbFirst => d0.toNat * 256 + d1.toNat
      | .lsbFirst => d1.toNat * 256 + d0.toNat := by
  cases o <;> exact word_toNat _ _

/-- Settles O47: a block, and a frame of two blocks, passes exactly when its checksums do. -/
theorem blockCheckedBeforeUse : Obligations.BlockCheckedBeforeUse := by
  intro p d0 d1 k e0 e1 m rest w v value
  have hword : ∀ (u : Word) (b0 b1 : Byte), busWord p.wordOrder b0 b1 = u ↔ u.toNat = value b0 b1 := by
    intro u b0 b1
    rw [← BitVec.toNat_inj, busWord_toNat]
    exact eq_comm
  refine ⟨?first, ?second, ?frame, rfl⟩
  case first =>
    rw [blockWord_zero, Option.ite_none_right_eq_some, Option.some.injEq, hword, blockCrc]
  case second =>
    rw [blockWord_three, Option.ite_none_right_eq_some, Option.some.injEq, hword, blockCrc]
  case frame =>
    rw [decodeSample_six, Option.ite_none_right_eq_some, Option.some.injEq, Prod.mk.injEq, hword, hword,
      blockCrc, blockCrc, and_assoc]

end Sys2Proof.Machine
end

section
/-! The step of the block: which instruction an input stands for, and when a step stops. The default
parameters and the reset state. -/

namespace Sys2Proof.Machine
open Sys2Proof.Config Sys2Proof.Safety

/-! ## The step -/

section
variable {s : State} {rest : List Input}

theorem step_idle (h : s.inputs = []) : step s = .next s := by
  simp only [step, fetchNext, h]

/-- An input that finds BUSY = 1 is an overlapping request (U1). -/
theorem step_overlap {x : Input} (hb : s.busy = true) (h : s.inputs = x :: rest) :
    step s = .fault .overlappingRequest := by
  simp only [step, fetchNext, h, hb, if_true]

theorem step_writeA0 {v : Word32} (hb : s.busy = false) (h : s.inputs = .writeA0 v :: rest) :
    step s = .next { s with a0 := v, inputs := rest } := by
  simp [step, fetchNext, h, hb]

theorem step_writeA1 {v : Word32} (hb : s.busy = false) (h : s.inputs = .writeA1 v :: rest) :
    step s = .next { s with a1 := v, inputs := rest } := by
  simp [step, fetchNext, h, hb]

theorem step_request {w : Word32} {i : Instr} (hb : s.busy = false)
    (h : s.inputs = .writeReq w :: rest) (hd : decodeReq s.params.hostop w = .ok i) :
    step s = exec i (acceptRequest w rest s) := by
  simp [step, fetchNext, h, hb, hd]

theorem step_illegal {w : Word32} {e : DecodeError} (hb : s.busy = false)
    (h : s.inputs = .writeReq w :: rest) (hd : decodeReq s.params.hostop w = .error e) :
    step s = .next (raise .invalidRequest (acceptRequest w rest s)) := by
  simp [step, fetchNext, h, hb, hd]

theorem step_emit {c : Cmd} (hb : s.busy = false) (h : s.inputs = .emit c :: rest) :
    step s = exec (commandInstr c) (acceptEmit rest s) := by
  simp [step, fetchNext, h, hb]

end

/-- A request word is placed as the host's next write of REQ. -/
theorem withFetchWord_request (s : State) (w : Word32) :
    s.withFetchWord 32 w.toNat = { s with inputs := .writeReq w :: s.inputs } := by
  simp [State.withFetchWord, encodedOfTable, placeNext]

/-- A command word is placed as its name (log 7). -/
theorem withFetchWord_command {s : State} {c : Word} {n : Cmd}
    (h : commandName? s.params.cmd c = some n) :
    s.withFetchWord 16 c.toNat = { s with inputs := .emit n :: s.inputs } := by
  simp [State.withFetchWord, encodedOfTable, placeNext, h]

/-- Settles O4: each kind of input is taken by its own branch of the step, and placing a word makes it the
next input. -/
theorem stepRunsDecoded : Obligations.StepRunsDecoded := by
  intro s rest hb
  refine ⟨fun w i h hd => step_request hb h hd, fun c h => step_emit hb h, fun w i hd => ?request,
    fun c i hd => ?command⟩
  case request =>
    rw [withFetchWord_request]
    exact step_request (rest := s.inputs) hb rfl hd
  case command =>
    cases hn : commandName? s.params.cmd c with
    | none => simp [decode, decodeCommand, hn] at hd
    | some n =>
      obtain rfl : commandInstr n = i := by simpa [decode, decodeCommand, hn] using hd
      rw [withFetchWord_command hn]
      exact step_emit (rest := s.inputs) hb rfl

/-- Settles O5: the request is accepted, then refused, and nothing lies between. -/
theorem illegalRequestRefused : Obligations.IllegalRequestRefused :=
  fun _ _ _ _ hb h hd => step_illegal hb h hd

/-- Settles O6: one branch of the step for each of these inputs. -/
theorem otherInputs : Obligations.OtherInputs :=
  fun _ _ => ⟨step_idle, fun _ => step_writeA0, fun _ => step_writeA1, fun _ => step_overlap⟩

/-- Every instruction has a meaning, and none of them stops the machine. -/
theorem exists_exec_eq_next (i : Instr) (s : State) : ∃ t, exec i s = .next t := by
  cases i <;> exact ⟨_, rfl⟩

/-- A step of a block that is not busy takes its input. -/
theorem exists_step_eq_next {s : State} (hb : s.busy = false) : ∃ t, step s = .next t := by
  cases h : s.inputs with
  | nil => exact ⟨_, step_idle h⟩
  | cons x rest =>
    cases x with
    | writeA0 v => exact ⟨_, step_writeA0 hb h⟩
    | writeA1 v => exact ⟨_, step_writeA1 hb h⟩
    | writeReq w =>
      cases hd : decodeReq s.params.hostop w with
      | ok i => exact step_request hb h hd ▸ exists_exec_eq_next i _
      | error e => exact ⟨_, step_illegal hb h hd⟩
    | emit c => exact step_emit hb h ▸ exists_exec_eq_next _ _

/-- Settles O52: at BUSY = 0 there is a next state; at BUSY = 1 an input faults and no input is no
event. -/
theorem stepStopsOnlyOnOverlap : Obligations.StepStopsOnlyOnOverlap := by
  intro s
  cases hb : s.busy with
  | false =>
    obtain ⟨t, ht⟩ := exists_step_eq_next hb
    simp [ht]
  | true =>
    cases h : s.inputs with
    | nil => simp [step_idle h]
    | cons x rest => simp [step_overlap hb h]

/-! ## Written words and parameters -/

/-- Settles O3: each word is decoded by evaluation. -/
theorem decodesWrittenWords : Obligations.DecodesWrittenWords := by
  refine ⟨?_, ?_, ?_, ?_, ?_, ?_, ?_, ?_, ?_, ?_, ?_⟩ <;> decide

theorem isPeriodic_iff {t : CmdTable} {w : Word} :
    isPeriodic t w = true ↔ ∃ c r, w = cmdPeriodic t c r := by
  constructor
  · intro h
    simp only [isPeriodic, periodicWords, List.contains_eq_mem, decide_eq_true_eq, List.mem_map] at h
    obtain ⟨n, hn, rfl⟩ := h
    simp only [periodicCmds, List.mem_flatMap, List.mem_map] at hn
    obtain ⟨c, -, r, -, rfl⟩ := hn
    exact ⟨c, r, rfl⟩
  · rintro ⟨c, r, rfl⟩
    exact isPeriodic_cmdPeriodic t c r

/-- In a table that meets R163 a periodic-start opcode determines cadence and resolution. -/
theorem cmdPeriodic_injective {p : Params} (hp : TableOk p) {c c' : Cadence} {r r' : Resolution}
    (h : cmdPeriodic p.cmd c r = cmdPeriodic p.cmd c' r') : c = c' ∧ r = r' := by
  have hname : Cmd.periodic c r = Cmd.periodic c' r' :=
    List.inj_on_of_nodup_map hp.1 (mem_periodicCmds c r) (mem_periodicCmds c' r') h
  exact Cmd.periodic.inj hname

/-- The default record meets the constraints of the spec, under both values of LC_POLICY. -/
theorem paramsOk_default (policy : LcPolicy) : ParamsOk { defaultParams with lcPolicy := policy } := by
  cases policy <;> decide

/-- Settles O20: the periodic-start opcodes are the image of the table's names, injective where they are
distinct; the default record is evaluated. -/
theorem parameterConstraints : Obligations.ParameterConstraints := by
  refine ⟨fun _ _ => isPeriodic_iff, fun _ _ _ _ _ hp => cmdPeriodic_injective hp, paramsOk_default,
    ?distinct, rfl⟩
  case distinct => decide

/-- Settles O50: the parameters are the defaults, no command is recorded, and every register is zero. -/
theorem resetIsSound : Obligations.ResetIsSound := by
  refine ⟨⟨paramsOk_default .startBreakOnly, ⟨?quiescent, ?hung⟩, ?handle, ?counters, .inl rfl, ?results⟩,
    rfl, rfl, rfl, rfl, rfl⟩
  case quiescent => exact fun _ => rfl
  case hung => exact fun h => nomatch h
  case handle => exact fun c h => nomatch h
  case counters => exact ⟨by decide, by decide⟩
  case results =>
    have hzero : (0#32) = b32Centi 0 := by decide
    exact fun _ => ⟨⟨by decide, by decide, hzero⟩, by decide, hzero⟩

end Sys2Proof.Machine
end

section
/-! What an instruction can do, said once: every run ends with an error, hangs, or is done, and in each case
three things are known apart from each other: what the engine and the environment have gone through
(`Moved`), what the handle registers hold (`Handled`), and which results are written (`Writes`). -/

namespace Sys2Proof.Machine
open Sys2Proof.Config Sys2Proof.Safety

/-! ## The engine and the environment -/

/-- The events of one operation so far: at most one write, and so many reads and waits, each of a form that
can cross the boundary (R212). -/
structure EventsWithin (reads waits : ℕ) (es : List Event) : Prop where
  writes : writeCount es ≤ 1
  reads : readCount es ≤ reads
  waits : waitCount es ≤ waits
  legal : ∀ e ∈ es, EventOk e

/-- RETRY and WAIT_US of a FETCH in an active session after some number of refused reads (R205). -/
def FetchCounters (s : State) (retry : BitVec 3) (waitUs : BitVec 21) : Prop :=
  ∃ k c r, k ≤ 5 ∧ activeSession s = some (c, r) ∧ retry = BitVec.ofNat 3 (5 - k) ∧
    waitUs = waitUsAfter (tInterval c) k

/-- What an operation changes on its way, apart from its first step: the record of its command, the engine's
counters, and what is left of the environment. -/
structure Moved where
  lastCmd     : Option Word
  retry       : BitVec 3
  waitUs      : BitVec 21
  writeScript : List (Option WriteAnswer)
  readScript  : List (Option ReadAnswer)
  waitScript  : List Signal
  draws       : ℕ
  events      : List Event

/-- `s` inside the operation of `i`, with the changes of `m`. -/
def moved (i : Instr) (m : Moved) (s : State) : State :=
  { begun i s with
    lastCmd := m.lastCmd, retry := m.retry, waitUs := m.waitUs
    writeScript := m.writeScript, readScript := m.readScript, waitScript := m.waitScript
    draws := m.draws, trace := s.trace ++ m.events }

/-- No change yet. -/
def Moved.none (s : State) : Moved :=
  { lastCmd := s.lastCmd, retry := s.retry, waitUs := s.waitUs
    writeScript := s.writeScript, readScript := s.readScript, waitScript := s.waitScript
    draws := s.draws, events := [] }

/-- One event more. -/
def Moved.log (e : Event) (m : Moved) : Moved := { m with events := m.events ++ [e] }

theorem moved_none (i : Instr) (s : State) : moved i (Moved.none s) s = begun i s := by
  rw [moved, Moved.none, List.append_nil]
  rfl

/-- The changes an operation of `i` can come to: only a command other than a periodic start and FETCH's is
recorded before the end (R26), and the counters are FETCH's alone (R29). -/
structure Allowed (i : Instr) (s : State) (reads waits : ℕ) (m : Moved) : Prop where
  lastCmd : m.lastCmd = s.lastCmd ∨ opOf i ≠ .fetch ∧
    ∃ n ∈ otherCmds, n ≠ .fixed .fetch ∧ m.lastCmd = recorded s (cmdWord s.params.cmd n)
  counters : m.retry = s.retry ∧ m.waitUs = s.waitUs ∨
    opOf i = .fetch ∧ FetchCounters s m.retry m.waitUs
  events : EventsWithin reads waits m.events

theorem eventsWithin_nil : EventsWithin 0 0 [] where
  writes := Nat.zero_le _
  reads := le_rfl
  waits := le_rfl
  legal := by simp

theorem EventsWithin.mono {r r' w w' : ℕ} {es : List Event} (h : EventsWithin r w es) (hr : r ≤ r')
    (hw : w ≤ w') : EventsWithin r' w' es where
  writes := h.writes
  reads := h.reads.trans hr
  waits := h.waits.trans hw
  legal := h.legal

theorem eventsWithin_write {bytes : List Byte} (a : WriteAnswer)
    (hlen : bytes.length = 2 ∨ bytes.length = 5) : EventsWithin 0 0 [.write bytes a] where
  writes := le_rfl
  reads := le_rfl
  waits := le_rfl
  legal := by simpa [EventOk] using hlen

theorem EventsWithin.read {r w n : ℕ} {es : List Event} {a : ReadAnswer} (h : EventsWithin r w es)
    (ha : EventOk (.read n a)) : EventsWithin (r + 1) w (es ++ [.read n a]) where
  writes := by simpa [writeCount] using h.writes
  reads := by simpa [readCount] using h.reads
  waits := by simpa [waitCount] using h.waits
  legal := by
    intro e he
    rcases List.mem_append.1 he with he | he
    · exact h.legal e he
    · exact List.mem_singleton.1 he ▸ ha

theorem EventsWithin.wait {r w us e : ℕ} {es : List Event} {o : WaitOutcome} (h : EventsWithin r w es)
    (ho : EventOk (.waited us e o)) : EventsWithin r (w + 1) (es ++ [.waited us e o]) where
  writes := by simpa [writeCount] using h.writes
  reads := by simpa [readCount] using h.reads
  waits := by simpa [waitCount] using h.waits
  legal := by
    intro e' he
    rcases List.mem_append.1 he with he | he
    · exact h.legal e' he
    · exact List.mem_singleton.1 he ▸ ho

/-! ## The handle registers -/

/-- The operations that deliver a status word. -/
def statusOps : List Op := [Op.statusRead, .statusFresh] ++ predicateOps

/-- What the handle registers hold when an operation succeeds. -/
inductive Handled (i : Instr) (s : State) (m : Moved) : State → Prop
  | session (c : Cadence) (r : Resolution) (h : i ∈ startPeriodicForms c r) :
      Handled i s m (record (cmdPeriodic s.params.cmd c r)
        { moved i m s with cadence := cadenceBits c, resolution := resolutionBits r })
  | brk (h : opOf i = .brk) : Handled i s m (record (cmdFixed s.params.cmd .brk) (moved i m s))
  | cached (w : Word) (h : opOf i ∈ statusOps) (hw : started i s = none ∨ started i s = some w) :
      Handled i s m { moved i m s with stCache := some w }
  | kept (h : opOf i ∉ Op.startPeriodic :: .brk :: statusOps)
      (hf : opOf i = .fetch → FetchCounters s m.retry m.waitUs) : Handled i s m (moved i m s)

/-! ## The results -/

/-- The results an operation writes when it succeeds (R34). -/
inductive Writes : Op → State → State → Prop
  | crc8 (v : Byte) (s : State) : Writes .crc8 s { s with rCrc := v }
  | code2c (code : Word) (s : State) : Writes .code2c s (putCelsius code s)
  | code2rh (code : Word) (s : State) : Writes .code2rh s (putPercent code s)
  | c2code (v : Word) (s : State) : Writes .c2code s { s with rTcode := v }
  | rh2code (v : Word) (s : State) : Writes .rh2code s { s with rRhcode := v }
  | stdec (w : Word) (s : State) : Writes .stdec s (putStatus w s)
  | cmdenc (v : Word) (s : State) : Writes .cmdenc s { s with rCmd := v }
  | alpack (v : Word) (s : State) : Writes .alpack s { s with rWord := v }
  | alunpack (w : Word) (s : State) : Writes .alunpack s (putAlertCodes w s)
  | sample {o : Op} (ho : o = .singleShot ∨ o = .fetch) (conv : Bool) (tc hc : Word) (s : State) :
      Writes o s (deliverSample conv tc hc s)
  | status {o : Op} (ho : o = .statusRead ∨ o = .statusFresh) {w : Word} {s : State}
      (hw : s.stCache = some w) : Writes o s (putStatus w s)
  | predicate {o : Op} (ho : o ∈ predicateOps) (b : Bool) {w : Word} {s : State}
      (hw : s.stCache = some w) : Writes o s { putStatus w s with rBool := b }
  | alertRead (w : Word) (s : State) : Writes .alertRead s (putAlert w s)
  | alertWrite (tc hc w : Word) (k : Byte) (s : State) :
      Writes .alertWrite s { s with rTcode := tc, rRhcode := hc, rWord := w, rCrc := k }
  | none {o : Op} (ho : o ∈ [Op.startPeriodic, .brk, .reset, .heaterOn, .heaterOff, .clearStatus])
      (s : State) : Writes o s s

/-! ## The ends -/

/-- `i` is refused in `s` before its first step (R73, R148, R149, R165, R233). -/
def Refused (i : Instr) (s : State) : Prop :=
  opOf i ∈ pureOps ∨ wellFormed i = false ∨
    opOf i = .alertWrite ∧ (celsius? s.a0 = none ∨ percent? s.a1 = none)

/-- How a run of `i` from `s` can end. -/
inductive End (i : Instr) (s : State) : State → Prop
  | refused (h : Refused i s) : End i s (raise .invalidRequest s)
  | failed {m : Moved} (hm : Allowed i s 6 5 m) (hp : opOf i ∉ pureOps) (e : ErrCode)
      (he : e = .noActiveAcquisition → opOf i = .fetch ∧ sessionActive s = false) :
      End i s (raise e (moved i m s))
  | hung {m : Moved} (hm : Allowed i s 6 5 m) (hp : opOf i ∉ pureOps)
      (ha : opOf i = .fetch → sessionActive s = true) : End i s (hang (moved i m s))
  | pure {u : State} (h : opOf i ∈ pureOps) (hu : Writes (opOf i) s u) : End i s (done u)
  | completed {m : Moved} {v u : State} (hm : Allowed i s 6 5 m) (hv : Handled i s m v)
      (hu : Writes (opOf i) v u) (hp : opOf i ∉ pureOps) : End i s (done u)

/-! ### The changes, step by step -/

/-- The changes after the BusWrite, whatever it came to: the environment and the trace. -/
def Moved.written (s : State) (ws : List (Option WriteAnswer)) (d : ℕ) (es : List Event) : Moved :=
  { Moved.none s with writeScript := ws, draws := d, events := es }

/-- The changes after the record of the command `c` (R26). -/
def Moved.recording (s : State) (c : Word) (m : Moved) : Moved := { m with lastCmd := recorded s c }

/-- The changes after a BusRead that was answered. -/
def Moved.read (rs : List (Option ReadAnswer)) (d n : ℕ) (a : ReadAnswer) (m : Moved) : Moved :=
  { m with readScript := rs, draws := d, events := m.events ++ [.read n a] }

/-- The changes after a CWait. -/
def Moved.cwaited (gs : List Signal) (d us e : ℕ) (o : WaitOutcome) (m : Moved) : Moved :=
  { m with waitScript := gs, draws := d, events := m.events ++ [.waited us e o] }

/-- The changes after a step of FETCH's counters. -/
def Moved.counting (retry : BitVec 3) (waitUs : BitVec 21) (m : Moved) : Moved :=
  { m with retry := retry, waitUs := waitUs }

section
variable {i : Instr} {s : State}

theorem recordAbf_moved_written (c : Word) (ws : List (Option WriteAnswer)) (d : ℕ) (es : List Event) :
    recordAbf c (moved i (Moved.written s ws d es) s) =
      moved i ((Moved.written s ws d es).recording s c) s := by
  rw [recordAbf_recorded]
  rfl

theorem wait_moved (us : ℕ) (m : Moved) :
    wait us (moved i m s) = moved i (m.log (.waited us us .elapsed)) s := by
  simp only [wait, logEvent, moved, Moved.log, List.append_assoc]

theorem moved_read (rs : List (Option ReadAnswer)) (d n : ℕ) (a : ReadAnswer) (m : Moved) :
    { moved i m s with
      readScript := rs, draws := d, trace := (moved i m s).trace ++ [.read n a] } =
      moved i (m.read rs d n a) s := by
  simp only [moved, Moved.read, List.append_assoc]

theorem moved_cwaited (gs : List Signal) (d us e : ℕ) (o : WaitOutcome) (m : Moved) :
    { moved i m s with
      waitScript := gs, draws := d, trace := (moved i m s).trace ++ [.waited us e o] } =
      moved i (m.cwaited gs d us e o) s := by
  simp only [moved, Moved.cwaited, List.append_assoc]

theorem Allowed.mono {r r' w w' : ℕ} {m : Moved} (h : Allowed i s r w m) (hr : r ≤ r')
    (hw : w ≤ w') : Allowed i s r' w' m where
  lastCmd := h.lastCmd
  counters := h.counters
  events := h.events.mono hr hw

theorem allowed_none : Allowed i s 0 0 (Moved.none s) where
  lastCmd := .inl rfl
  counters := .inl ⟨rfl, rfl⟩
  events := eventsWithin_nil

theorem allowed_written (ws : List (Option WriteAnswer)) (d : ℕ) {es : List Event}
    (hes : EventsWithin 0 0 es) : Allowed i s 0 0 (Moved.written s ws d es) where
  lastCmd := .inl rfl
  counters := .inl ⟨rfl, rfl⟩
  events := hes

theorem Allowed.recording {r w : ℕ} {m : Moved} (h : Allowed i s r w m) (hop : opOf i ≠ .fetch)
    {n : Cmd} (hn : n ∈ otherCmds) (hne : n ≠ .fixed .fetch) :
    Allowed i s r w (m.recording s (cmdWord s.params.cmd n)) where
  lastCmd := .inr ⟨hop, n, hn, hne, rfl⟩
  counters := h.counters
  events := h.events

theorem Allowed.log_wait {r w us : ℕ} {m : Moved} (h : Allowed i s r w m) :
    Allowed i s r (w + 1) (m.log (.waited us us .elapsed)) where
  lastCmd := h.lastCmd
  counters := h.counters
  events := h.events.wait rfl

theorem Allowed.read {r w n : ℕ} {m : Moved} {a : ReadAnswer} (h : Allowed i s r w m)
    (rs : List (Option ReadAnswer)) (d : ℕ) (ha : EventOk (.read n a)) :
    Allowed i s (r + 1) w (m.read rs d n a) where
  lastCmd := h.lastCmd
  counters := h.counters
  events := h.events.read ha

theorem Allowed.cwaited {r w us e : ℕ} {m : Moved} {o : WaitOutcome} (h : Allowed i s r w m)
    (gs : List Signal) (d : ℕ) (ho : EventOk (.waited us e o)) :
    Allowed i s r (w + 1) (m.cwaited gs d us e o) where
  lastCmd := h.lastCmd
  counters := h.counters
  events := h.events.wait ho

theorem Allowed.counting {r w : ℕ} {m : Moved} (h : Allowed i s r w m) (hop : opOf i = .fetch)
    {retry : BitVec 3} {waitUs : BitVec 21} (hc : FetchCounters s retry waitUs) :
    Allowed i s r w (m.counting retry waitUs) where
  lastCmd := h.lastCmd
  counters := .inr ⟨hop, hc⟩
  events := h.events

/-! ### The transactions -/

/-- The BusWrite of an operation: it fails or hangs, or the operation goes on. -/
theorem end_writeThen {bytes : List Byte} {k : State → State} (hp : opOf i ∉ pureOps)
    (ha : opOf i = .fetch → sessionActive s = true) (hlen : bytes.length = 2 ∨ bytes.length = 5)
    (hk : ∀ ws d, Allowed i s 0 0 (Moved.written s ws d [.write bytes .ok]) →
      End i s (k (moved i (Moved.written s ws d [.write bytes .ok]) s))) :
    End i s (writeThen bytes (begun i s) k) := by
  have hanswered : ∀ ws d a, Allowed i s 0 0 (Moved.written s ws d [.write bytes a]) :=
    fun ws d a => allowed_written ws d (eventsWithin_write a hlen)
  obtain ⟨ws, d, h | h | h | h⟩ := writeThen_cases bytes (begun i s) k
  · rw [h]
    exact hk ws d (hanswered ws d .ok)
  · rw [h]
    exact .failed ((hanswered ws d .nack).mono (by omega) (by omega)) hp .busNotAcknowledging nofun
  · rw [h]
    exact .failed ((hanswered ws d .ioErr).mono (by omega) (by omega)) hp .busIOError nofun
  · have hm : Allowed i s 6 5 (Moved.written s ws d []) :=
      (allowed_written ws d eventsWithin_nil).mono (by omega) (by omega)
    have hend := End.hung hm hp ha
    rw [moved, Moved.written, List.append_nil] at hend
    rw [h]
    exact hend

/-- The single BusRead of an operation: it fails or hangs, or the operation goes on. -/
theorem end_readThen {n : ℕ} {k : List Byte → State → State} {m : Moved} {w : ℕ}
    (hp : opOf i ∉ pureOps) (hop : opOf i ≠ .fetch) (hm : Allowed i s 0 w m) (hw : w ≤ 5)
    (hn : n = 3 ∨ n = 6)
    (hk : ∀ bytes m', Allowed i s 6 5 m' → End i s (k bytes (moved i m' s))) :
    End i s (readThen n (moved i m s) k) := by
  obtain ⟨rs, d, ⟨bytes, hlen, h⟩ | h | h | h⟩ := readThen_cases n (moved i m s) k
  · rw [h, moved_read]
    exact hk bytes _ ((hm.read (n := n) (a := .ok bytes) rs d ⟨hn, hlen⟩).mono (by omega) (by omega))
  · rw [h, moved_read]
    exact .failed ((hm.read (n := n) (a := .nack) rs d hn).mono (by omega) (by omega)) hp .busNotAcknowledging nofun
  · rw [h, moved_read]
    exact .failed ((hm.read (n := n) (a := .ioErr) rs d hn).mono (by omega) (by omega)) hp .busIOError nofun
  · have hm' : Allowed i s 6 5 { m with readScript := rs, draws := d } :=
      { lastCmd := hm.lastCmd
        counters := hm.counters
        events := hm.events.mono (by omega) hw }
    rw [h]
    exact .hung hm' hp fun he => absurd he hop

/-- The end of a measurement: a bad frame is refused, a good one delivered (R200, R206). -/
theorem end_finishSample (conv : Bool) (bytes : List Byte) {m : Moved} (hm : Allowed i s 6 5 m)
    (hop : opOf i = .singleShot ∨ opOf i = .fetch)
    (hf : opOf i = .fetch → FetchCounters s m.retry m.waitUs) :
    End i s (finishSample conv bytes (moved i m s)) := by
  have hp : opOf i ∉ pureOps := by rcases hop with h | h <;> rw [h] <;> decide
  have hkept : opOf i ∉ Op.startPeriodic :: .brk :: statusOps := by
    rcases hop with h | h <;> rw [h] <;> decide
  rw [finishSample]
  split
  · exact .failed hm hp .checksumMismatch nofun
  next tc hc _ => exact .completed hm (.kept hkept hf) (.sample hop conv tc hc _) hp

/-- A data block: a bad one is refused, a good one goes on (R251). -/
theorem end_checkedWord {k : Word → State → State} (bytes : List Byte) {m : Moved}
    (hp : opOf i ∉ pureOps) (hm : Allowed i s 6 5 m) (hk : ∀ w, End i s (k w (moved i m s))) :
    End i s (checkedWord k bytes (moved i m s)) := by
  rw [checkedWord]
  split
  · exact .failed hm hp .checksumMismatch nofun
  next w _ => exact hk w

end

/-! ### The operations -/

section
variable {i : Instr} (s : State)

theorem end_startPeriodic {c : Cadence} {r : Resolution} (h : i ∈ startPeriodicForms c r) :
    ∃ t, exec i s = .next t ∧ End i s t := by
  have hop := opOf_of_mem_startPeriodicForms h
  have hp : opOf i ∉ pureOps := by rw [hop]; decide
  refine ⟨_, exec_startPeriodic s h, end_writeThen hp (by simp [hop]) (.inl rfl) fun ws d hm => ?_⟩
  simp only [wait_moved]
  exact .completed (hm.log_wait.mono (by omega) (by omega)) (.session c r h)
    (.none (by rw [hop]; decide) _) hp

theorem end_brk (h : i = .brk ∨ i = .cmdBreak) : ∃ t, exec i s = .next t ∧ End i s t := by
  have hop := opOf_of_brk h
  have hp : opOf i ∉ pureOps := by rw [hop]; decide
  refine ⟨_, exec_brk s h, end_writeThen hp (by simp [hop]) (.inl rfl) fun ws d hm => ?_⟩
  exact .completed (hm.mono (by omega) (by omega)) (.brk hop) (.none (by rw [hop]; decide) _) hp

theorem end_reset (h : i = .reset ∨ i = .cmdReset) : ∃ t, exec i s = .next t ∧ End i s t := by
  have hop := opOf_of_reset h
  have hp : opOf i ∉ pureOps := by rw [hop]; decide
  refine ⟨_, exec_reset s h, end_writeThen hp (by simp [hop]) (.inl rfl) fun ws d hm => ?_⟩
  have hm' := (hm.recording (n := .fixed .reset) (by simp [hop]) (by decide) (by decide)).log_wait
    (us := tReset)
  simp only [recordAbf_moved_written, wait_moved]
  exact .completed (hm'.mono (by omega) (by omega)) (.kept (by rw [hop]; decide) (by simp [hop]))
    (.none (by rw [hop]; decide) _) hp

theorem end_statusCommand {f : FixedCmd} (h : (i, f) ∈ statusCommandForms) :
    ∃ t, exec i s = .next t ∧ End i s t := by
  have hop := opOf_of_mem_statusCommandForms h
  have hfacts : ∀ o ∈ [Op.heaterOn, .heaterOff, .clearStatus],
      o ∉ pureOps ∧ o ≠ .fetch ∧ o ∉ Op.startPeriodic :: .brk :: statusOps ∧
        o ∈ [Op.startPeriodic, .brk, .reset, .heaterOn, .heaterOff, .clearStatus] := by decide
  obtain ⟨hp, hfetch, hkept, hnone⟩ := hfacts _ hop
  have hf : ∀ x ∈ statusCommandForms, Cmd.fixed x.2 ∈ otherCmds ∧ Cmd.fixed x.2 ≠ .fixed .fetch := by
    decide
  obtain ⟨hmem, hne⟩ := hf _ h
  refine ⟨_, exec_statusCommand s h,
    end_writeThen hp (fun he => absurd he hfetch) (.inl rfl) fun ws d hm => ?_⟩
  have hm' := hm.recording hfetch hmem hne
  simp only [recordAbf_moved_written]
  exact .completed (hm'.mono (by omega) (by omega)) (.kept hkept fun he => absurd he hfetch)
    (.none hnone _) hp

theorem end_singleShot {r : Resolution} {conv : Bool} (h : i ∈ singleShotForms r conv) :
    ∃ t, exec i s = .next t ∧ End i s t := by
  have hop := opOf_of_mem_singleShotForms h
  have hp : opOf i ∉ pureOps := by rw [hop]; decide
  have hfetch : opOf i ≠ .fetch := by rw [hop]; decide
  refine ⟨_, exec_singleShot s h,
    end_writeThen hp (fun he => absurd he hfetch) (.inl rfl) fun ws d hm => ?_⟩
  have hm' := (hm.recording (n := .single r) hfetch (by cases r <;> decide) (by simp)).log_wait
    (us := tConv r)
  simp only [recordAbf_moved_written, wait_moved]
  exact end_readThen hp hfetch hm' (by omega) (.inr rfl) fun bytes m hm =>
    end_finishSample conv bytes hm (.inl hop) fun he => absurd he hfetch

/-- A status read, from the cache or from the device, up to what follows it. -/
theorem end_statusThen {k : State → State} (hop : opOf i ∈ statusOps)
    (hk : ∀ w m, Allowed i s 6 5 m → (started i s = none ∨ started i s = some w) →
      End i s (k (putStatus w { moved i m s with stCache := some w }))) :
    End i s (statusThen k (begun i s)) := by
  have hfacts : ∀ o ∈ statusOps, o ∉ pureOps ∧ o ≠ .fetch := by decide
  obtain ⟨hp, hfetch⟩ := hfacts _ hop
  cases hc : started i s with
  | some w =>
    have hhit := hk w (Moved.none s) (allowed_none.mono (by omega) (by omega)) (.inr hc)
    rw [moved_none, ← hc] at hhit
    rw [statusThen_begun_hit s k hc]
    exact hhit
  | none =>
    rw [statusThen_begun_miss s k hc, statusMiss_eq]
    refine end_writeThen hp (fun he => absurd he hfetch) (.inl rfl) fun ws d hm => ?_
    have hm' := hm.recording (n := .fixed .statusRead) hfetch (by decide) (by decide)
    rw [recordAbf_moved_written]
    exact end_readThen hp hfetch hm' (by omega) (.inl rfl) fun bytes m hm =>
      end_checkedWord bytes hp hm fun w => hk w m hm (.inl hc)

theorem end_statusRead (h : i ∈ statusReadForms) : ∃ t, exec i s = .next t ∧ End i s t := by
  have hop := opOf_of_mem_statusReadForms h
  have hfacts : ∀ o ∈ [Op.statusRead, .statusFresh],
      o ∈ statusOps ∧ o ∉ pureOps ∧ (o = .statusRead ∨ o = .statusFresh) := by decide
  obtain ⟨hstatus, hp, hread⟩ := hfacts _ hop
  refine ⟨_, exec_statusRead s h, end_statusThen s hstatus fun w m hm hw => ?_⟩
  exact .completed hm (.cached w hstatus hw) (.status hread rfl) hp

theorem end_predicate {f : StatusFlag} (h : (i, f) ∈ predicateForms) :
    ∃ t, exec i s = .next t ∧ End i s t := by
  have hop := opOf_of_mem_predicateForms h
  have hfacts : ∀ o ∈ predicateOps, o ∈ statusOps ∧ o ∉ pureOps := by decide
  obtain ⟨hstatus, hp⟩ := hfacts _ hop
  refine ⟨_, exec_predicate s h, end_statusThen s hstatus fun w m hm hw => ?_⟩
  exact .completed hm (.cached w hstatus hw) (.predicate hop _ rfl) hp

theorem end_alertRead {thr : Threshold} (h : i ∈ alertReadForms thr) :
    ∃ t, exec i s = .next t ∧ End i s t := by
  have hop := opOf_of_mem_alertReadForms h
  have hp : opOf i ∉ pureOps := by rw [hop]; decide
  have hfetch : opOf i ≠ .fetch := by rw [hop]; decide
  refine ⟨_, exec_alertRead s h,
    end_writeThen hp (fun he => absurd he hfetch) (.inl rfl) fun ws d hm => ?_⟩
  have hm' := hm.recording (n := .alertRead thr) hfetch (by cases thr <;> decide) (by simp)
  simp only [recordAbf_moved_written]
  refine end_readThen hp hfetch hm' (by omega) (.inl rfl) fun bytes m hm =>
    end_checkedWord bytes hp hm fun w => ?_
  exact .completed hm (.kept (by rw [hop]; decide) fun he => absurd he hfetch)
    (by rw [hop]; exact .alertRead w _) hp

theorem end_alertWrite {thr : Threshold} (h : i ∈ alertWriteForms thr) :
    ∃ t, exec i s = .next t ∧ End i s t := by
  have hop := opOf_of_mem_alertWriteForms h
  have hp : opOf i ∉ pureOps := by rw [hop]; decide
  have hfetch : opOf i ≠ .fetch := by rw [hop]; decide
  by_cases hd : celsius? s.a0 = none ∨ percent? s.a1 = none
  · exact ⟨_, exec_alertWrite_refused s h hd, .refused (.inr (.inr ⟨hop, hd⟩))⟩
  obtain ⟨hx, hy⟩ := not_or.1 hd
  obtain ⟨x, hx⟩ := Option.ne_none_iff_exists'.1 hx
  obtain ⟨y, hy⟩ := Option.ne_none_iff_exists'.1 hy
  refine ⟨_, exec_alertWrite s h hx hy,
    end_writeThen hp (fun he => absurd he hfetch) (.inr rfl) fun ws d hm => ?_⟩
  have hm' := (hm.recording (n := .alertWrite thr) hfetch (by cases thr <;> decide) (by simp)).log_wait
    (us := tAlertWrite)
  simp only [recordAbf_moved_written, wait_moved]
  exact .completed (hm'.mono (by omega) (by omega))
    (.kept (by rw [hop]; decide) fun he => absurd he hfetch)
    (by rw [hop]; exact .alertWrite _ _ _ _ _) hp

/-! ### FETCH -/

/-- One turn of the retry loop: the read decides unless it is refused, and then the retries left and the wait
decide (R205). -/
theorem fetchLoop_cases (conv : Bool) (n : ℕ) (s : State) :
    ∃ rs d,
      (∃ bytes, bytes.length = 6 ∧ fetchLoop conv n s = finishSample conv bytes
        { s with readScript := rs, draws := d, trace := s.trace ++ [.read 6 (.ok bytes)] }) ∨
      fetchLoop conv n s = raise .busIOError
        { s with readScript := rs, draws := d, trace := s.trace ++ [.read 6 .ioErr] } ∨
      fetchLoop conv n s = hang { s with readScript := rs, draws := d } ∨
      let s1 := { s with readScript := rs, draws := d, trace := s.trace ++ [.read 6 .nack] }
      n = 0 ∧ fetchLoop conv n s = raise .busNotAcknowledging s1 ∨
      ∃ k gs d' e o, n = k + 1 ∧ EventOk (.waited s.waitUs.toNat e o) ∧
        let s2 := { s1 with
          waitScript := gs, draws := d', trace := s1.trace ++ [.waited s.waitUs.toNat e o] }
        ((∃ code, code ≠ .noActiveAcquisition ∧ fetchLoop conv n s = raise code s2) ∨
          fetchLoop conv n s = fetchLoop conv k { s2 with
            waitUs :=
              if k + 1 = retryBudget then s2.waitUs / BitVec.ofNat 21 backoffDiv else s2.waitUs
            retry := BitVec.ofNat 3 k }) := by
  obtain ⟨a, rs, d, hread, hlen⟩ := busRead_state 6 s
  refine ⟨rs, d, ?_⟩
  generalize hloop : fetchLoop conv n s = t
  unfold fetchLoop at hloop
  rw [hread] at hloop
  rcases a with _ | bytes | _ | _
  · exact .inr (.inr (.inl (by simpa using hloop.symm)))
  · exact .inl ⟨bytes, hlen bytes rfl, hloop.symm⟩
  · refine .inr (.inr (.inr ?_))
    cases n with
    | zero => exact .inl ⟨rfl, hloop.symm⟩
    | succ k =>
      obtain ⟨g, gs, d', hwait⟩ := cwait_state s.waitUs.toNat
        { s with readScript := rs, draws := d, trace := s.trace ++ [.read 6 .nack] }
      refine .inr ⟨k, gs, d', (waitResult s.waitUs.toNat g).2, (waitResult s.waitUs.toNat g).1, rfl, ?_⟩
      simp only [Option.toList_some, List.map_cons, List.map_nil, hwait] at hloop
      rcases waitResult_cases s.waitUs.toNat g with h | ⟨e, he, h⟩ | ⟨e, he, h⟩
      · simp only [h] at hloop ⊢
        exact ⟨rfl, .inr hloop.symm⟩
      · simp only [h] at hloop ⊢
        exact ⟨he, .inl ⟨.cancelled, nofun, hloop.symm⟩⟩
      · simp only [h] at hloop ⊢
        exact ⟨he, .inl ⟨.deadlineExceeded, nofun, hloop.symm⟩⟩
  · exact .inr (.inl hloop.symm)

/-- The loop with `n` retries left: so many reads and waits are behind it (R205, R212). -/
theorem end_fetchLoop (conv : Bool) (hop : opOf i = .fetch) {c : Cadence} {r : Resolution}
    (ha : activeSession s = some (c, r)) {n : ℕ} (hn : n ≤ 5) {m : Moved}
    (hm : Allowed i s (5 - n) (5 - n) m) (hretry : m.retry = BitVec.ofNat 3 n)
    (hwait : m.waitUs = waitUsAfter (tInterval c) (5 - n)) :
    End i s (fetchLoop conv n (moved i m s)) := by
  have hp : opOf i ∉ pureOps := by rw [hop]; decide
  have hactive : opOf i = .fetch → sessionActive s = true := fun _ => by simp [sessionActive, ha]
  induction n using Nat.strong_induction_on generalizing m with
  | _ n ih =>
    have hcounters : FetchCounters s m.retry m.waitUs :=
      ⟨5 - n, c, r, by omega, ha, by rw [hretry, show 5 - (5 - n) = n by omega], hwait⟩
    have hread : ∀ rs d a, EventOk (.read 6 a) → Allowed i s 6 5 (m.read rs d 6 a) :=
      fun rs d a h => (hm.read rs d h).mono (by omega) (by omega)
    obtain ⟨rs, d, ⟨bytes, hlen, h⟩ | h | h | ⟨-, h⟩ | ⟨k, gs, d', e, o, rfl, ho, h⟩⟩ :=
      fetchLoop_cases conv n (moved i m s)
    · rw [h, moved_read]
      exact end_finishSample conv bytes (hread rs d (.ok bytes) ⟨.inr rfl, hlen⟩) (.inr hop)
        fun _ => hcounters
    · rw [h, moved_read]
      exact .failed (hread rs d .ioErr (.inr rfl)) hp .busIOError nofun
    · have hm' : Allowed i s 6 5 { m with readScript := rs, draws := d } :=
        { lastCmd := hm.lastCmd
          counters := hm.counters
          events := hm.events.mono (by omega) (by omega) }
      rw [h]
      exact .hung hm' hp hactive
    · rw [h, moved_read]
      exact .failed (hread rs d .nack (.inr rfl)) hp .busNotAcknowledging nofun
    · have hnack : Allowed i s (5 - k) (5 - (k + 1)) (m.read rs d 6 .nack) :=
        (hm.read (n := 6) (a := .nack) rs d (.inr rfl)).mono (by omega) le_rfl
      have hwaited := (hnack.cwaited gs d' ho).mono le_rfl (show _ ≤ 5 - k by omega)
      rw [moved_read, moved_cwaited] at h
      rcases h with ⟨code, hcode, h⟩ | h
      · rw [h]
        exact .failed (hwaited.mono (by omega) (by omega)) hp code fun he => absurd he hcode
      · rw [h]
        have hus := waitUsAfter_succ c (j := 5 - (k + 1)) (m := k) (by omega)
        rw [← hwait, show 5 - (k + 1) + 1 = 5 - k by omega] at hus
        have hnext := hwaited.counting (retry := BitVec.ofNat 3 k) hop
          ⟨5 - k, c, r, by omega, ha, by rw [show 5 - (5 - k) = k by omega], hus⟩
        exact ih k (by omega) (by omega) hnext rfl hus

end

/-- FSM inside the operation is lost at its end. -/
theorem raise_begun (e : ErrCode) (i : Instr) (s : State) :
    raise e (begun i s) = raise e (start (opOf i) s) := by
  rw [start_opOf]
  rfl

theorem end_fetch {i : Instr} (s : State) (hop : opOf i = .fetch) :
    ∃ t, exec i s = .next t ∧ End i s t := by
  have hp : opOf i ∉ pureOps := by rw [hop]; decide
  cases ha : sessionActive s with
  | false =>
    have hend := End.failed (i := i) (s := s) (allowed_none.mono (by omega) (by omega)) hp
      .noActiveAcquisition fun _ => ⟨hop, ha⟩
    rw [moved_none, raise_begun, hop] at hend
    exact ⟨_, exec_fetch_inactive s hop ha, hend⟩
  | true =>
    obtain ⟨conv, hi⟩ := exists_mem_fetchForms hop
    obtain ⟨c, r, hact⟩ := sessionActive_iff_exists_activeSession.1 ha
    refine ⟨_, exec_fetch_active s hi hact, end_writeThen hp (fun _ => ha) (.inl rfl) fun ws d hm => ?_⟩
    exact end_fetchLoop s conv hop hact le_rfl
      (hm.counting hop ⟨0, c, r, by omega, hact, rfl, rfl⟩) rfl rfl

/-! ### The pure-unit operations -/

theorem end_pure {i : Instr} (s : State) (hop : opOf i ∈ pureOps) :
    ∃ t, exec i s = .next t ∧ End i s t := by
  have hrefused : End i s (raise .invalidRequest s) := .refused (.inl hop)
  cases i with
  | crc8 seed b0 b1 => exact ⟨_, rfl, .pure hop (.crc8 _ s)⟩
  | code2c code => exact ⟨_, rfl, .pure hop (.code2c code s)⟩
  | code2rh code => exact ⟨_, rfl, .pure hop (.code2rh code s)⟩
  | stdec w => exact ⟨_, rfl, .pure hop (.stdec w s)⟩
  | alpack => exact ⟨_, rfl, .pure hop (.alpack _ s)⟩
  | alunpack w => exact ⟨_, rfl, .pure hop (.alunpack w s)⟩
  | c2code =>
    rw [exec, execC2code]
    cases celsius? s.a0 with
    | none => exact ⟨_, rfl, hrefused⟩
    | some n => exact ⟨_, rfl, .pure hop (.c2code _ s)⟩
  | rh2code =>
    rw [exec, execRh2code]
    cases percent? s.a0 with
    | none => exact ⟨_, rfl, hrefused⟩
    | some n => exact ⟨_, rfl, .pure hop (.rh2code _ s)⟩
  | cmdenc cls res cad thr =>
    rw [exec, execCmdenc]
    cases cmdencLookup s.params.cmd cls res cad thr with
    | none => exact ⟨_, rfl, hrefused⟩
    | some c => exact ⟨_, rfl, .pure hop (.cmdenc c s)⟩
  | _ => simp [opOf, pureOps] at hop

/-- Every instruction answers with a next state, and its run has one of the ends. -/
theorem exec_end (i : Instr) (s : State) : ∃ t, exec i s = .next t ∧ End i s t := by
  cases form i with
  | pure h => exact end_pure s h
  | illFormed h => exact ⟨_, exec_of_illFormed h s, .refused (.inr (.inl h))⟩
  | singleShot r conv h => exact end_singleShot s h
  | startPeriodic c r h => exact end_startPeriodic s h
  | fetch conv h => exact end_fetch s (opOf_of_mem_fetchForms h)
  | brk h => exact end_brk s h
  | reset h => exact end_reset s h
  | statusCommand f h => exact end_statusCommand s h
  | statusRead h => exact end_statusRead s h
  | predicate f h => exact end_predicate s h
  | alertRead thr h => exact end_alertRead s h
  | alertWrite thr h => exact end_alertWrite s h

theorem end_of_exec {i : Instr} {s t : State} (h : exec i s = .next t) : End i s t := by
  obtain ⟨t', ht, hend⟩ := exec_end i s
  rw [h] at ht
  cases ht
  exact hend

end Sys2Proof.Machine
end

section
/-! The rules of the whole machine, each read off the ends a run can have. -/

namespace Sys2Proof.Machine
open Sys2Proof.Config Sys2Proof.Safety

/-! ## What an end leaves as it was -/

/-- The results are all that `Writes` speaks of. -/
theorem Writes.frame {o : Op} {v u : State} (h : Writes o v u) :
    u = { v with
      rTcode := u.rTcode, rRhcode := u.rRhcode, rTcenti := u.rTcenti, rRhcenti := u.rRhcenti
      rTf32 := u.rTf32, rRhf32 := u.rRhf32, rWord := u.rWord, rFlags := u.rFlags, rCrc := u.rCrc
      rBool := u.rBool, rCmd := u.rCmd } := by
  cases h with
  | sample ho conv tc hc =>
    rw [deliverSample_eq]
  | _ => rfl

/-- The handle registers are all that `Handled` speaks of. -/
theorem Handled.frame {i : Instr} {s v : State} {m : Moved} (h : Handled i s m v) :
    v = { moved i m s with
      stCache := v.stCache, lastCmd := v.lastCmd, cadence := v.cadence, resolution := v.resolution } := by
  cases h <;> rfl

/-- A run writes no request register, no parameter, and not the list of inputs. -/
theorem End.frame {i : Instr} {s t : State} (h : End i s t) :
    t.req = s.req ∧ t.a0 = s.a0 ∧ t.a1 = s.a1 ∧ t.inputs = s.inputs ∧ t.params = s.params := by
  cases h with
  | refused | failed | hung => exact ⟨rfl, rfl, rfl, rfl, rfl⟩
  | pure _ hu =>
    rw [hu.frame]
    exact ⟨rfl, rfl, rfl, rfl, rfl⟩
  | completed _ hv hu =>
    rw [hu.frame, hv.frame]
    exact ⟨rfl, rfl, rfl, rfl, rfl⟩

/-- FSM is `quiescent()` at every end (R255). -/
theorem End.fsm {i : Instr} {s t : State} (h : End i s t) (hb : t.busy = false) :
    t.fsm = quiescent t := by
  cases h with
  | hung => cases hb
  | refused | failed | pure | completed => rfl

/-- Settles O60: the events of a run are those of its changes. -/
theorem operationsAddBoundedEvents : Obligations.OperationsAddBoundedEvents := by
  intro i s t h
  have hwithin : ∃ es, t.trace = s.trace ++ es ∧ EventsWithin 6 5 es := by
    cases end_of_exec h with
    | refused => exact ⟨[], (List.append_nil _).symm, eventsWithin_nil.mono (by omega) (by omega)⟩
    | failed hm | hung hm => exact ⟨_, rfl, hm.events⟩
    | pure _ hu =>
      rw [hu.frame]
      exact ⟨[], (List.append_nil _).symm, eventsWithin_nil.mono (by omega) (by omega)⟩
    | completed hm hv hu =>
      rw [hu.frame, hv.frame]
      exact ⟨_, rfl, hm.events⟩
  obtain ⟨es, htrace, hes⟩ := hwithin
  exact ⟨es, htrace, hes.writes, hes.reads, hes.waits, hes.legal⟩

/-- Settles O53: an error and a hang leave the results of `s`, and a success is neither. -/
theorem failureLeavesResults : Obligations.FailureLeavesResults := by
  intro i s t h hfail
  cases end_of_exec h with
  | refused | failed =>
    exact ⟨nofun, rfl, rfl, rfl, rfl, rfl, rfl, rfl, rfl, rfl, rfl, rfl⟩
  | hung => exact ⟨fun _ => rfl, rfl, rfl, rfl, rfl, rfl, rfl, rfl, rfl, rfl, rfl, rfl⟩
  | pure | completed => simp at hfail

/-- Settles O58: a pure-unit operation is refused, or writes results. -/
theorem pureOperationsStayInside : Obligations.PureOperationsStayInside := by
  intro i s t hop h
  cases end_of_exec h with
  | refused => exact ⟨rfl, rfl, rfl, rfl, rfl, rfl, rfl, rfl, rfl, rfl, rfl⟩
  | failed _ hp => exact absurd hop hp
  | hung _ hp => exact absurd hop hp
  | pure _ hu =>
    rw [hu.frame]
    exact ⟨rfl, rfl, rfl, rfl, rfl, rfl, rfl, rfl, rfl, rfl, rfl⟩
  | completed _ _ _ hp => exact absurd hop hp

/-! ## The writers of the results (R34) -/

/-- What an operation leaves of the results, by the rows of R34. -/
def ResultsByRow (o : Op) (s t : State) : Prop :=
  (o ∉ [Op.singleShot, .fetch, .alertRead, .c2code, .alunpack, .alertWrite] →
    t.rTcode = s.rTcode) ∧
  (o ∉ [Op.singleShot, .fetch, .alertRead, .rh2code, .alunpack, .alertWrite] →
    t.rRhcode = s.rRhcode) ∧
  (o ∉ [Op.code2c, .singleShot, .fetch, .alertRead] → t.rTcenti = s.rTcenti ∧ t.rTf32 = s.rTf32) ∧
  (o ∉ [Op.code2rh, .singleShot, .fetch, .alertRead] →
    t.rRhcenti = s.rRhcenti ∧ t.rRhf32 = s.rRhf32) ∧
  (o ∉ [Op.statusRead, .statusFresh, .stdec, .alertRead, .alertWrite, .alpack] ++ predicateOps →
    t.rWord = s.rWord) ∧
  (o ∉ [Op.statusRead, .statusFresh, .stdec] ++ predicateOps → t.rFlags = s.rFlags) ∧
  (o ∉ [Op.crc8, .alertWrite] → t.rCrc = s.rCrc) ∧
  (o ∉ predicateOps → t.rBool = s.rBool) ∧
  (o ∉ [Op.cmdenc] → t.rCmd = s.rCmd)

theorem resultsByRow_refl (o : Op) (s : State) : ResultsByRow o s s := by
  simp [ResultsByRow]

theorem Writes.resultsByRow {o : Op} {v u : State} (h : Writes o v u) : ResultsByRow o v u := by
  cases h with
  | sample ho conv tc hc =>
    rcases ho with rfl | rfl <;> simp [ResultsByRow, deliverSample_eq]
  | status ho => rcases ho with rfl | rfl <;> simp [ResultsByRow]
  | predicate ho => simp [ResultsByRow, ho]
  | alertRead => simp [ResultsByRow, putAlert]
  | none => exact resultsByRow_refl _ _
  | _ => simp [ResultsByRow]

/-- Settles O54: a success writes the rows of its operation, and every other end leaves the results. -/
theorem resultsWrittenOnlyByTheirOperations : Obligations.ResultsWrittenOnlyByTheirOperations := by
  intro i s t h
  have hrow : ResultsByRow (opOf i) s t := by
    cases end_of_exec h with
    | refused | failed | hung => exact resultsByRow_refl _ s
    | pure _ hu => exact hu.resultsByRow
    | completed _ hv hu =>
      have hrow := hu.resultsByRow
      rw [hv.frame] at hrow
      exact hrow
  exact hrow

/-! ## The writers of the handle registers and the counters -/

theorem started_of_notMem {i : Instr} {s : State} (h : opOf i ∉ s.params.stInvalidators) :
    started i s = s.stCache := if_neg h

theorem started_of_mem {i : Instr} {s : State} (h : opOf i ∈ s.params.stInvalidators) :
    started i s = none := if_pos h

/-- Under StartBreakOnly nothing is recorded before the end of an operation (R26). -/
theorem recorded_startBreakOnly {s : State} (h : s.params.lcPolicy = .startBreakOnly) (c : Word) :
    recorded s c = s.lastCmd := by
  rw [recorded, h]

theorem recorded_allButFetch {s : State} (h : s.params.lcPolicy = .allButFetch) (c : Word) :
    recorded s c = some c := by
  rw [recorded, h]

theorem Allowed.lastCmd_startBreakOnly {i : Instr} {s : State} {r w : ℕ} {m : Moved}
    (hm : Allowed i s r w m) (h : s.params.lcPolicy = .startBreakOnly) : m.lastCmd = s.lastCmd := by
  rcases hm.lastCmd with hlc | ⟨-, n, -, -, hlc⟩
  · exact hlc
  · rw [hlc, recorded_startBreakOnly h]

theorem Allowed.lastCmd_fetch {i : Instr} {s : State} {r w : ℕ} {m : Moved}
    (hm : Allowed i s r w m) (h : opOf i = .fetch) : m.lastCmd = s.lastCmd := by
  rcases hm.lastCmd with hlc | ⟨hne, -⟩
  · exact hlc
  · exact absurd h hne

theorem Allowed.counters_of_ne_fetch {i : Instr} {s : State} {r w : ℕ} {m : Moved}
    (hm : Allowed i s r w m) (h : opOf i ≠ .fetch) : m.retry = s.retry ∧ m.waitUs = s.waitUs := by
  rcases hm.counters with hc | ⟨he, -⟩
  · exact hc
  · exact absurd he h

/-- What a run of `i` leaves of the handle registers and the counters. -/
def HandleByOp (i : Instr) (s t : State) : Prop :=
  (opOf i ≠ .startPeriodic → t.cadence = s.cadence ∧ t.resolution = s.resolution) ∧
  (s.params.lcPolicy = .startBreakOnly → opOf i ≠ .startPeriodic → opOf i ≠ .brk →
    t.lastCmd = s.lastCmd) ∧
  (opOf i = .fetch ∨ opOf i ∈ pureOps → t.lastCmd = s.lastCmd) ∧
  (opOf i ∉ s.params.stInvalidators → opOf i ∉ statusOps → t.stCache = s.stCache) ∧
  (opOf i ≠ .fetch → t.retry = s.retry ∧ t.waitUs = s.waitUs)

theorem handleByOp_refl (i : Instr) (s : State) : HandleByOp i s s := by
  simp [HandleByOp]

theorem Allowed.handleByOp {i : Instr} {s : State} {r w : ℕ} {m : Moved} (hm : Allowed i s r w m)
    (hp : opOf i ∉ pureOps) : HandleByOp i s (moved i m s) := by
  refine ⟨fun _ => ⟨rfl, rfl⟩, fun hsbo _ _ => hm.lastCmd_startBreakOnly hsbo, fun hop => ?recorded,
    fun hinv _ => started_of_notMem hinv, hm.counters_of_ne_fetch⟩
  case recorded =>
    rcases hop with hop | hop
    · exact hm.lastCmd_fetch hop
    · exact absurd hop hp

theorem Handled.handleByOp {i : Instr} {s v : State} {m : Moved} (hv : Handled i s m v)
    (hm : Allowed i s 6 5 m) (hp : opOf i ∉ pureOps) : HandleByOp i s v := by
  obtain ⟨hsession, hlc, hfetch, hcache, hcounters⟩ := hm.handleByOp hp
  cases hv with
  | session c r h =>
    have hop := opOf_of_mem_startPeriodicForms h
    exact ⟨fun hne => absurd hop hne, fun _ hne => absurd hop hne,
      by simp [hop, pureOps], hcache, hcounters⟩
  | brk hop =>
    exact ⟨hsession, fun _ _ hne => absurd hop hne, by simp [hop, pureOps], hcache, hcounters⟩
  | cached w hop =>
    exact ⟨hsession, hlc, hfetch, fun _ hne => absurd hop hne, hcounters⟩
  | kept => exact ⟨hsession, hlc, hfetch, hcache, hcounters⟩

theorem End.handleByOp {i : Instr} {s t : State} (h : End i s t) : HandleByOp i s t := by
  cases h with
  | refused => exact handleByOp_refl i s
  | failed hm hp | hung hm hp => exact hm.handleByOp hp
  | pure _ hu =>
    rw [hu.frame]
    exact handleByOp_refl i s
  | completed hm hv hu hp =>
    rw [hu.frame]
    exact hv.handleByOp hm hp

/-- A status read delivers the word it caches (R174). -/
theorem Writes.rWord_of_status {o : Op} {v u : State} {w : Word} (h : Writes o v u)
    (ho : o ∈ statusOps) (hw : v.stCache = some w) : u.rWord = w := by
  cases h with
  | status _ hw' | predicate _ _ hw' => exact Option.some.inj (hw'.symm.trans hw)
  | sample hs => rcases hs with rfl | rfl <;> exact absurd ho (by decide)
  | none hn =>
    have hdisjoint : ∀ o ∈ [Op.startPeriodic, .brk, .reset, .heaterOn, .heaterOff, .clearStatus],
        o ∉ statusOps := by decide
    exact absurd ho (hdisjoint _ hn)
  | _ => exact absurd ho (by decide)

/-- What the handle registers and the counters hold after a success (R24 to R26, R29, R174). -/
def HandleOnSuccess (i : Instr) (s t : State) : Prop :=
  (opOf i = .startPeriodic → ∃ c r, i ∈ startPeriodicForms c r ∧ t.cadence = cadenceBits c ∧
    t.resolution = resolutionBits r ∧ t.lastCmd = some (cmdPeriodic s.params.cmd c r)) ∧
  (opOf i = .brk → t.lastCmd = some (cmdFixed s.params.cmd .brk)) ∧
  (opOf i ∈ statusOps → t.stCache = some t.rWord) ∧
  (opOf i = .fetch → FetchCounters s t.retry t.waitUs)

theorem handleOnSuccess_of_pure {i : Instr} (h : opOf i ∈ pureOps) (s t : State) :
    HandleOnSuccess i s t := by
  have hdisjoint : ∀ o ∈ pureOps, o ≠ .startPeriodic ∧ o ≠ .brk ∧ o ∉ statusOps ∧ o ≠ .fetch := by
    decide
  obtain ⟨hstart, hbrk, hstatus, hfetch⟩ := hdisjoint _ h
  exact ⟨fun hop => absurd hop hstart, fun hop => absurd hop hbrk, fun hop => absurd hop hstatus,
    fun hop => absurd hop hfetch⟩

theorem Handled.handleOnSuccess {i : Instr} {s v u : State} {m : Moved} (hv : Handled i s m v)
    (hu : Writes (opOf i) v u) : HandleOnSuccess i s u := by
  have hframe := hu.frame
  cases hv with
  | session c r h =>
    have hop := opOf_of_mem_startPeriodicForms h
    refine ⟨fun _ => ⟨c, r, h, ?_, ?_, ?_⟩, ?_, ?_, ?_⟩
    · rw [hframe]; rfl
    · rw [hframe]; rfl
    · rw [hframe]; rfl
    all_goals simp [hop, statusOps, predicateOps]
  | brk hop =>
    refine ⟨by simp [hop], fun _ => ?_, by simp [hop, statusOps, predicateOps], by simp [hop]⟩
    rw [hframe]
    rfl
  | cached w hop =>
    have hdisjoint : ∀ o ∈ statusOps, o ≠ .startPeriodic ∧ o ≠ .brk ∧ o ≠ .fetch := by decide
    obtain ⟨hstart, hbrk, hfetch⟩ := hdisjoint _ hop
    refine ⟨fun h => absurd h hstart, fun h => absurd h hbrk, fun _ => ?_, fun h => absurd h hfetch⟩
    rw [hu.rWord_of_status hop rfl, hframe]
  | kept hnone hf =>
    refine ⟨fun h => ?_, fun h => ?_, fun h => ?_, fun h => ?_⟩
    · exact absurd (h ▸ List.mem_cons_self) hnone
    · exact absurd (h ▸ List.mem_cons_of_mem _ List.mem_cons_self) hnone
    · exact absurd (List.mem_cons_of_mem _ (List.mem_cons_of_mem _ h)) hnone
    · rw [hframe]
      exact hf h

/-- A run that ends with R_ERR = 0 succeeded, where no error has that code (R250). -/
theorem End.handleOnSuccess {i : Instr} {s t : State} (h : End i s t) (hp : ParamsOk s.params)
    (hb : t.busy = false) (herr : t.rErr = 0#4) : HandleOnSuccess i s t := by
  obtain ⟨-, -, hcodes, -⟩ := hp
  cases h with
  | refused => exact absurd herr (errCode_ne_zero hcodes .invalidRequest)
  | failed _ _ e => exact absurd herr (errCode_ne_zero hcodes e)
  | hung => cases hb
  | pure hop => exact handleOnSuccess_of_pure hop _ _
  | completed _ hv hu =>
    have hsuccess := hv.handleOnSuccess hu
    exact hsuccess

/-- Settles O55: what every end leaves, and what a success writes. -/
theorem handleAndCounterWriters : Obligations.HandleAndCounterWriters := by
  intro i s t h
  have hend := end_of_exec h
  obtain ⟨hsession, hlc, hfetch, hcache, hcounters⟩ := hend.handleByOp
  exact ⟨hsession, hlc, hfetch, hcache, hcounters, fun hp hb herr => hend.handleOnSuccess hp hb herr⟩

/-! ## The session -/

/-- The session depends on the recorded command, the descriptor and the parameters alone (R32). -/
theorem activeSession_congr {s t : State} (hlc : t.lastCmd = s.lastCmd) (hcad : t.cadence = s.cadence)
    (hres : t.resolution = s.resolution) (hparams : t.params = s.params) :
    activeSession t = activeSession s := by
  simp only [activeSession, hlc, hcad, hres, hparams]

/-- A command that an operation records on its way is no periodic start (R163), so it ends the session if
it is recorded at all. -/
theorem Allowed.activeSession_cases {i : Instr} {s : State} {r w : ℕ} {m : Moved}
    (hm : Allowed i s r w m) (hp : TableOk s.params) :
    activeSession (moved i m s) = activeSession s ∨
      s.params.lcPolicy = .allButFetch ∧ opOf i ≠ .fetch ∧ activeSession (moved i m s) = none := by
  rcases hm.lastCmd with hlc | ⟨hop, n, hn, hne, hlc⟩
  · exact .inl (activeSession_congr hlc rfl rfl rfl)
  · cases hpolicy : s.params.lcPolicy with
    | startBreakOnly =>
      exact .inl (activeSession_congr (hlc.trans (recorded_startBreakOnly hpolicy _)) rfl rfl rfl)
    | allButFetch =>
      rw [recorded_allButFetch hpolicy] at hlc
      obtain ⟨-, -, hothers⟩ := hp
      exact .inr ⟨rfl, hop, activeSession_eq_none_of_not_periodic hlc (hothers hpolicy n hn hne)⟩

theorem sessionActive_eq_of_activeSession {s t : State} (h : activeSession t = activeSession s) :
    sessionActive t = sessionActive s := congrArg Option.isSome h

/-- How the session stands after a run of `i`. -/
def SessionByOp (i : Instr) (s t : State) : Prop :=
  (sessionActive s = false → sessionActive t = true →
    opOf i = .startPeriodic ∧ t.rErr = 0#4 ∧ t.busy = false) ∧
  (s.params.lcPolicy = .startBreakOnly → sessionActive s = true → sessionActive t = false →
    opOf i = .brk ∧ t.rErr = 0#4 ∧ t.busy = false)

theorem sessionByOp_of_eq {i : Instr} {s t : State} (h : sessionActive t = sessionActive s) :
    SessionByOp i s t := by
  constructor
  · intro hs ht
    rw [h, hs] at ht
    cases ht
  · intro _ hs ht
    rw [h, hs] at ht
    cases ht

/-- An end that keeps what the operation recorded on its way. -/
theorem Allowed.sessionByOp {i : Instr} {s t : State} {m : Moved} (hm : Allowed i s 6 5 m)
    (hp : TableOk s.params) (ht : activeSession t = activeSession (moved i m s)) :
    SessionByOp i s t := by
  rcases hm.activeSession_cases hp with hkept | ⟨hpolicy, -, hnone⟩
  · exact sessionByOp_of_eq (sessionActive_eq_of_activeSession (ht.trans hkept))
  · have hinactive : sessionActive t = false := congrArg Option.isSome (ht.trans hnone)
    constructor
    · intro _ hactive
      rw [hinactive] at hactive
      cases hactive
    · intro hsbo
      rw [hpolicy] at hsbo
      cases hsbo

theorem Handled.sessionByOp {i : Instr} {s v u : State} {m : Moved} (hv : Handled i s m v)
    (hm : Allowed i s 6 5 m) (hp : TableOk s.params) (hu : Writes (opOf i) v u) :
    SessionByOp i s (done u) := by
  have hframe : activeSession (done u) = activeSession v := by rw [hu.frame]; rfl
  cases hv with
  | session c r h =>
    have hop := opOf_of_mem_startPeriodicForms h
    have hactive : sessionActive (done u) = true :=
      congrArg Option.isSome (hframe.trans (activeSession_of_recorded (c := c) (r := r) rfl rfl rfl))
    refine ⟨fun _ _ => ⟨hop, rfl, rfl⟩, fun _ _ hinactive => ?_⟩
    rw [hactive] at hinactive
    cases hinactive
  | brk hop =>
    obtain ⟨-, hbrk, -⟩ := hp
    have hinactive : sessionActive (done u) = false :=
      congrArg Option.isSome (hframe.trans (activeSession_eq_none_of_not_periodic rfl hbrk))
    refine ⟨fun _ hactive => ?_, fun _ _ _ => ⟨hop, rfl, rfl⟩⟩
    rw [hinactive] at hactive
    cases hactive
  | cached | kept => exact hm.sessionByOp hp hframe

/-- Settles O56: a session is begun by the record of a success of START_PERIODIC, and ended by a recorded
command that is no periodic start. -/
theorem sessionChangesOnlyByStartAndBreak : Obligations.SessionChangesOnlyByStartAndBreak := by
  intro i s t hp h
  obtain ⟨htable, -⟩ := hp
  have hsession : SessionByOp i s t := by
    cases end_of_exec h with
    | refused => exact sessionByOp_of_eq rfl
    | failed hm | hung hm => exact hm.sessionByOp htable rfl
    | pure _ hu =>
      refine sessionByOp_of_eq (sessionActive_eq_of_activeSession ?_)
      rw [hu.frame]
      rfl
    | completed hm hv hu => exact hv.sessionByOp hm htable hu
  exact hsession

/-- Settles O34: FETCH tests the session first, and no other way to an end carries that error. -/
theorem noActiveAcquisitionExactly : Obligations.NoActiveAcquisitionExactly := by
  refine ⟨fun i s hop ha => ?raised, fun i s t hp h hb herr => ?only⟩
  case raised =>
    have hnone : activeSession s = none := by simpa [sessionActive] using ha
    rw [exec_fetch_inactive s hop ha, ← hop, start_opOf, ← quiescent_of_no_session hnone]
    rfl
  case only =>
    obtain ⟨-, -, hcodes, -⟩ := hp
    cases end_of_exec h with
    | refused =>
      have he : ErrCode.invalidRequest = .noActiveAcquisition := errCode_injective hcodes herr
      cases he
    | failed _ _ e he => exact he (errCode_injective hcodes herr)
    | hung => cases hb
    | pure | completed => exact absurd herr.symm (errCode_ne_zero hcodes _)

/-! ## The status cache -/

/-- Where the operation invalidates, its run does not see what was cached (R176). -/
theorem begun_of_invalidator {i : Instr} {s : State} (h : opOf i ∈ s.params.stInvalidators) :
    begun i { s with stCache := none } = begun i s := by
  have hempty : started i { s with stCache := none } = none := if_pos h
  rw [begun, begun, hempty, started_of_mem h]
  rfl

theorem exec_of_invalidator {i : Instr} {s : State} (h : opOf i ∈ s.params.stInvalidators)
    (hp : ∀ o ∈ pureOps, o ∉ s.params.stInvalidators) (hwf : WellFormed i)
    (halert : opOf i = .alertWrite → celsius? s.a0 ≠ none ∧ percent? s.a1 ≠ none) :
    exec i { s with stCache := none } = exec i s := by
  have hbegun := begun_of_invalidator h
  cases form i with
  | pure hop => exact absurd h (hp _ hop)
  | illFormed hi => rw [WellFormed, hi] at hwf; cases hwf
  | singleShot r conv hi => rw [exec_singleShot s hi, exec_singleShot _ hi, hbegun]
  | startPeriodic c r hi => rw [exec_startPeriodic s hi, exec_startPeriodic _ hi, hbegun]
  | fetch conv hi =>
    have hop := opOf_of_mem_fetchForms hi
    cases ha : activeSession s with
    | none =>
      have hinactive : sessionActive s = false := congrArg Option.isSome ha
      rw [exec_fetch_inactive s hop hinactive,
        exec_fetch_inactive { s with stCache := none } hop hinactive, ← hop, ← raise_begun, ← raise_begun,
        hbegun]
    | some x =>
      rw [exec_fetch_active s hi ha, exec_fetch_active { s with stCache := none } hi ha, hbegun]
  | brk hi => rw [exec_brk s hi, exec_brk _ hi, hbegun]
  | reset hi => rw [exec_reset s hi, exec_reset _ hi, hbegun]
  | statusCommand f hi => rw [exec_statusCommand s hi, exec_statusCommand _ hi, hbegun]
  | statusRead hi => rw [exec_statusRead s hi, exec_statusRead _ hi, hbegun]
  | predicate f hi => rw [exec_predicate s hi, exec_predicate _ hi, hbegun]
  | alertRead thr hi => rw [exec_alertRead s hi, exec_alertRead _ hi, hbegun]
  | alertWrite thr hi =>
    obtain ⟨hx, hy⟩ := halert (opOf_of_mem_alertWriteForms hi)
    obtain ⟨x, hx⟩ := Option.ne_none_iff_exists'.1 hx
    obtain ⟨y, hy⟩ := Option.ne_none_iff_exists'.1 hy
    rw [exec_alertWrite s hi hx hy, exec_alertWrite { s with stCache := none } hi hx hy, hbegun]

/-- What a run of `i` that gets to its first step leaves in the cache: what that step left, or the word of
a status read that succeeded. -/
theorem End.cache {i : Instr} {s t : State} (h : End i s t) (hr : ¬ Refused i s) :
    t.stCache = started i s ∨
      t.rErr = 0#4 ∧ t.busy = false ∧ opOf i ∈ statusOps ∧ t.stCache = some t.rWord ∧
        (started i s = none ∨ started i s = t.stCache) := by
  cases h with
  | refused h => exact absurd h hr
  | failed | hung => exact .inl rfl
  | pure h => exact absurd (.inl h) hr
  | completed _ hv hu =>
    have hframe := hu.frame
    cases hv with
    | cached w hop hw =>
      have hword := hu.rWord_of_status hop rfl
      have hcache : (done _).stCache = some w := congrArg State.stCache hframe
      refine .inr ⟨rfl, rfl, hop, ?_, ?_⟩
      · rw [hcache, done_rWord, hword]
      · rw [hcache]
        exact hw
    | session | brk | kept =>
      rw [hframe]
      exact .inl rfl

/-- Settles O57: an invalidator runs as from an empty cache, and outside the set only a status read writes it. -/
theorem cacheInvalidatedExactly : Obligations.CacheInvalidatedExactly := by
  intro i s t hp hwf h halert
  obtain ⟨-, -, -, hpure⟩ := hp
  have hend := end_of_exec h
  obtain ⟨-, -, -, hother, -⟩ := hend.handleByOp
  have hrun : opOf i ∉ pureOps → ¬ Refused i s := by
    rintro hop (hpure | hill | ⟨hop', hd⟩)
    · exact hop hpure
    · rw [WellFormed, hill] at hwf; cases hwf
    · obtain ⟨hx, hy⟩ := halert hop'
      rcases hd with hd | hd
      · exact hx hd
      · exact hy hd
  refine ⟨fun hinv => ⟨?asEmpty, ?after⟩, fun hinv => ⟨fun hop w hw => ?kept, hother hinv⟩⟩
  case asEmpty => rw [exec_of_invalidator hinv hpure hwf halert, h]
  case after =>
    rcases hend.cache (hrun fun hop => hpure _ hop hinv) with hcache | ⟨herr, hb, hop, hword, -⟩
    · exact .inl (hcache.trans (started_of_mem hinv))
    · exact .inr ⟨herr, hb, hop, hword⟩
  case kept =>
    have hdisjoint : ∀ o ∈ statusOps, o ∉ pureOps := by decide
    rw [← hw, ← started_of_notMem hinv]
    rcases hend.cache (hrun (hdisjoint _ hop)) with hcache | ⟨-, -, -, -, hnone | hsame⟩
    · exact hcache
    · rw [started_of_notMem hinv, hw] at hnone
      cases hnone
    · exact hsame.symm

end Sys2Proof.Machine
end

section
/-! Two rules that compare a run with its environment: the canceller is seen by FETCH alone, and a transport
that answers lets every operation end. -/

namespace Sys2Proof.Machine
open Sys2Proof.Config Sys2Proof.Safety

/-! ## The canceller -/

/-- `s` with other moves of the canceller ahead. -/
def withSignals (gs : List Signal) (s : State) : State := { s with waitScript := gs }

/-- What the canceller will do has no influence on `k`. -/
def IgnoresSignals (k : State → State) : Prop :=
  ∀ gs s, k (withSignals gs s) = withSignals gs (k s)

theorem busWrite_withSignals (bytes : List Byte) (gs : List Signal) (s : State) :
    busWrite bytes (withSignals gs s) =
      ((busWrite bytes s).1, withSignals gs (busWrite bytes s).2) := by
  rcases hs : s.writeScript with _ | ⟨_ | a, ws⟩
  · cases hf : freeWrite s.draws <;> simp [busWrite, drawWrite, withSignals, logEvent, hs, hf]
  · simp [busWrite, drawWrite, withSignals, hs]
  · simp [busWrite, drawWrite, withSignals, logEvent, hs]

theorem busRead_withSignals (n : ℕ) (gs : List Signal) (s : State) :
    busRead n (withSignals gs s) = ((busRead n s).1, withSignals gs (busRead n s).2) := by
  rcases hs : s.readScript with _ | ⟨_ | a, rs⟩
  · cases hf : freeRead s.draws <;> simp [busRead, drawRead, withSignals, logEvent, hs, hf]
  · simp [busRead, drawRead, withSignals, hs]
  · simp [busRead, drawRead, withSignals, logEvent, hs]

theorem writeThen_ignoresSignals (bytes : List Byte) {k : State → State} (hk : IgnoresSignals k) :
    IgnoresSignals fun s => writeThen bytes s k := by
  intro gs s
  simp only [writeThen, busWrite_withSignals]
  obtain ⟨a, u⟩ := busWrite bytes s
  rcases a with _ | _ | _ | _
  · rfl
  · exact hk gs u
  · rfl
  · rfl

theorem readThen_ignoresSignals (n : ℕ) {k : List Byte → State → State}
    (hk : ∀ bytes, IgnoresSignals (k bytes)) : IgnoresSignals fun s => readThen n s k := by
  intro gs s
  simp only [readThen, busRead_withSignals]
  obtain ⟨a, u⟩ := busRead n s
  rcases a with _ | bytes | _ | _
  · rfl
  · exact hk bytes gs u
  · rfl
  · rfl

theorem recordAbf_ignoresSignals (c : Word) : IgnoresSignals (recordAbf c) := by
  intro gs s
  rw [recordAbf_recorded, recordAbf_recorded]
  rfl

theorem finishSample_ignoresSignals (conv : Bool) (bytes : List Byte) :
    IgnoresSignals (finishSample conv bytes) := by
  intro gs s
  have hparams : (withSignals gs s).params = s.params := rfl
  rw [finishSample, finishSample, hparams]
  cases decodeSample s.params bytes with
  | none => rfl
  | some x =>
    simp only [deliverSample_eq]
    rfl

theorem checkedWord_ignoresSignals {k : Word → State → State} (hk : ∀ w, IgnoresSignals (k w))
    (bytes : List Byte) : IgnoresSignals (checkedWord k bytes) := by
  intro gs s
  have hparams : (withSignals gs s).params = s.params := rfl
  rw [checkedWord, checkedWord, hparams]
  cases blockWord s.params bytes 0 with
  | none => rfl
  | some w => exact hk w gs s

theorem statusThen_ignoresSignals {k : State → State} (hk : IgnoresSignals k) :
    IgnoresSignals (statusThen k) := by
  intro gs s
  cases hc : s.stCache with
  | some w =>
    rw [statusThen_hit k (s := s) hc, statusThen_hit k (s := withSignals gs s) hc]
    exact hk gs (putStatus w s)
  | none =>
    have hmiss : ∀ u, u.stCache = none → statusThen k u = statusMiss k u := by
      intro u hu
      simp only [statusThen, hu]
    rw [hmiss s hc, hmiss (withSignals gs s) hc, statusMiss_eq, statusMiss_eq]
    refine writeThen_ignoresSignals _ (fun gs u => ?_) gs s
    rw [recordAbf_ignoresSignals]
    exact readThen_ignoresSignals 3 (checkedWord_ignoresSignals fun w gs u => hk gs (cacheStatus w u))
      gs _

theorem exec_pure_withSignals {i : Instr} (h : opOf i ∈ pureOps) (gs : List Signal) (s : State) :
    ∃ t, exec i s = .next t ∧ exec i (withSignals gs s) = .next (withSignals gs t) := by
  cases i with
  | crc8 | code2c | code2rh | stdec | alpack | alunpack => exact ⟨_, rfl, rfl⟩
  | c2code =>
    have ha0 : (withSignals gs s).a0 = s.a0 := rfl
    simp only [exec, execC2code, ha0]
    cases celsius? s.a0 <;> exact ⟨_, rfl, rfl⟩
  | rh2code =>
    have ha0 : (withSignals gs s).a0 = s.a0 := rfl
    simp only [exec, execRh2code, ha0]
    cases percent? s.a0 <;> exact ⟨_, rfl, rfl⟩
  | cmdenc cls res cad thr =>
    have hparams : (withSignals gs s).params = s.params := rfl
    simp only [exec, execCmdenc, hparams]
    cases cmdencLookup s.params.cmd cls res cad thr <;> exact ⟨_, rfl, rfl⟩
  | _ => simp [opOf, pureOps] at h

/-- An operation whose body ignores the canceller. -/
theorem exec_withSignals_of_body {i : Instr} {gs : List Signal} {s : State} {k : State → State}
    (hk : IgnoresSignals k) (h : exec i s = .next (k (begun i s)))
    (h' : exec i (withSignals gs s) = .next (k (begun i (withSignals gs s)))) :
    ∃ t, exec i s = .next t ∧ exec i (withSignals gs s) = .next (withSignals gs t) :=
  ⟨_, h, h'.trans (congrArg Host.Outcome.next (hk gs (begun i s)))⟩

theorem exec_withSignals {i : Instr} (hop : opOf i ≠ .fetch) (gs : List Signal) (s : State) :
    ∃ t, exec i s = .next t ∧ exec i (withSignals gs s) = .next (withSignals gs t) := by
  cases form i with
  | pure h => exact exec_pure_withSignals h gs s
  | illFormed h => exact ⟨_, exec_of_illFormed h s, exec_of_illFormed h _⟩
  | fetch conv h => exact absurd (opOf_of_mem_fetchForms h) hop
  | singleShot r conv h =>
    refine exec_withSignals_of_body (k := fun u => writeThen _ u fun u =>
      readThen 6 (wait (tConv r) (recordAbf _ u)) (finishSample conv)) ?_
      (exec_singleShot s h) (exec_singleShot _ h)
    refine writeThen_ignoresSignals _ fun gs u => ?_
    rw [recordAbf_ignoresSignals]
    exact readThen_ignoresSignals 6 (finishSample_ignoresSignals conv) gs (wait _ (recordAbf _ u))
  | startPeriodic c r h =>
    exact exec_withSignals_of_body (k := fun u => writeThen _ u fun u => done (record _
      { wait (tConv r) u with cadence := cadenceBits c, resolution := resolutionBits r }))
      (writeThen_ignoresSignals _ fun _ _ => rfl) (exec_startPeriodic s h) (exec_startPeriodic _ h)
  | brk h =>
    exact exec_withSignals_of_body (k := fun u => writeThen _ u fun u => done (record _ u))
      (writeThen_ignoresSignals _ fun _ _ => rfl) (exec_brk s h) (exec_brk _ h)
  | reset h =>
    refine exec_withSignals_of_body (k := fun u => writeThen _ u fun u =>
      done (wait tReset (recordAbf _ u))) ?_ (exec_reset s h) (exec_reset _ h)
    refine writeThen_ignoresSignals _ fun gs u => ?_
    rw [recordAbf_ignoresSignals]
    rfl
  | statusCommand f h =>
    refine exec_withSignals_of_body (k := fun u => writeThen _ u fun u => done (recordAbf _ u)) ?_
      (exec_statusCommand s h) (exec_statusCommand _ h)
    refine writeThen_ignoresSignals _ fun gs u => ?_
    rw [recordAbf_ignoresSignals]
    rfl
  | statusRead h =>
    exact exec_withSignals_of_body (statusThen_ignoresSignals fun _ _ => rfl)
      (exec_statusRead s h) (exec_statusRead _ h)
  | predicate f h =>
    exact exec_withSignals_of_body (statusThen_ignoresSignals fun _ _ => rfl)
      (exec_predicate s h) (exec_predicate _ h)
  | alertRead thr h =>
    refine exec_withSignals_of_body (k := fun u => writeThen _ u fun u =>
      readThen 3 (recordAbf _ u) (checkedWord fun w v => done (putAlert w v))) ?_
      (exec_alertRead s h) (exec_alertRead _ h)
    refine writeThen_ignoresSignals _ fun gs u => ?_
    rw [recordAbf_ignoresSignals]
    exact readThen_ignoresSignals 3 (checkedWord_ignoresSignals fun _ _ _ => rfl) gs _
  | alertWrite thr h =>
    by_cases hd : celsius? s.a0 = none ∨ percent? s.a1 = none
    · exact ⟨_, exec_alertWrite_refused s h hd, exec_alertWrite_refused (withSignals gs s) h hd⟩
    obtain ⟨hx, hy⟩ := not_or.1 hd
    obtain ⟨x, hx⟩ := Option.ne_none_iff_exists'.1 hx
    obtain ⟨y, hy⟩ := Option.ne_none_iff_exists'.1 hy
    refine exec_withSignals_of_body (k := fun u => writeThen _ u fun u =>
      done { wait tAlertWrite (recordAbf _ u) with
        rTcode := _, rRhcode := _, rWord := _, rCrc := _ }) ?_
      (exec_alertWrite s h hx hy) (exec_alertWrite (withSignals gs s) h hx hy)
    refine writeThen_ignoresSignals _ fun gs u => ?_
    rw [recordAbf_ignoresSignals]
    rfl

/-- Settles O59: no primitive but CWait looks at the canceller, and FETCH alone waits so. -/
theorem onlyFetchSeesCancellation : Obligations.OnlyFetchSeesCancellation := by
  intro i s t gs hop h
  obtain ⟨u, hu, hsignals⟩ := exec_withSignals hop gs s
  obtain rfl : u = t := by
    rw [h] at hu
    exact (Host.Outcome.next.inj hu).symm
  exact hsignals

/-! ## A transport that answers (R212) -/

theorem writeThen_busy {bytes : List Byte} {s : State} {k : State → State} {a : WriteAnswer}
    {ws : List (Option WriteAnswer)} (h : s.writeScript = some a :: ws)
    (hk : ∀ u, u.readScript = s.readScript → (k u).busy = false) :
    (writeThen bytes s k).busy = false := by
  cases a with
  | ok =>
    rw [writeThen_ok bytes k h]
    exact hk _ rfl
  | nack => rw [writeThen_nack bytes k h, raise_busy]
  | ioErr => rw [writeThen_ioErr bytes k h, raise_busy]

theorem readThen_busy {n : ℕ} {s : State} {k : List Byte → State → State} {a : ReadAnswer}
    {rs : List (Option ReadAnswer)} (h : s.readScript = some a :: rs)
    (hk : ∀ bytes u, (k bytes u).busy = false) : (readThen n s k).busy = false := by
  rw [readThen, busRead_script n h]
  cases fitRead n a with
  | ok bytes => exact hk bytes _
  | nack | ioErr => rfl

theorem finishSample_busy (conv : Bool) (bytes : List Byte) (s : State) :
    (finishSample conv bytes s).busy = false := by
  rw [finishSample]
  split <;> rfl

theorem checkedWord_busy {k : Word → State → State} (hk : ∀ w u, (k w u).busy = false)
    (bytes : List Byte) (s : State) : (checkedWord k bytes s).busy = false := by
  rw [checkedWord]
  split
  · rfl
  next w _ => exact hk w s

/-- The loop with `n` retries left reads at most `n + 1` times. -/
theorem fetchLoop_busy (conv : Bool) {n : ℕ} {answers : List ReadAnswer}
    (hn : answers.length = n + 1) {rest : List (Option ReadAnswer)} {s : State}
    (h : s.readScript = answers.map some ++ rest) : (fetchLoop conv n s).busy = false := by
  induction n generalizing answers s with
  | zero =>
    obtain ⟨a, rfl⟩ := List.length_eq_one_iff.1 hn
    unfold fetchLoop
    rw [busRead_script 6 (rs := rest) h]
    cases fitRead 6 a with
    | ok bytes => exact finishSample_busy conv bytes _
    | nack | ioErr => rfl
  | succ n ih =>
    obtain ⟨a, as, rfl⟩ := List.exists_of_length_succ answers hn
    unfold fetchLoop
    rw [busRead_script 6 (rs := as.map some ++ rest) h]
    cases fitRead 6 a with
    | ok bytes => exact finishSample_busy conv bytes _
    | ioErr => rfl
    | nack =>
      obtain ⟨g, gs, d, hwait⟩ := cwait_state s.waitUs.toNat
        { s with readScript := as.map some ++ rest, trace := s.trace ++ [.read 6 .nack] }
      simp only [hwait]
      cases (waitResult s.waitUs.toNat g).1 with
      | cancelled | deadlineExceeded => rfl
      | elapsed => exact ih (Nat.succ.inj hn) rfl

/-- A pure-unit operation makes no transaction, so it cannot hang (R64). -/
theorem End.busy_of_pure {i : Instr} {s t : State} (h : End i s t) (hop : opOf i ∈ pureOps) :
    t.busy = false := by
  cases h with
  | hung _ hp => exact absurd hop hp
  | refused | failed | pure | completed => rfl

/-- The transport answers the next BusWrite and the next six BusReads. -/
def TransportAnswers (s : State) : Prop :=
  ∃ (a : WriteAnswer) (ws : List (Option WriteAnswer)) (answers : List ReadAnswer)
    (rest : List (Option ReadAnswer)),
    s.writeScript = some a :: ws ∧ answers.length = 6 ∧ s.readScript = answers.map some ++ rest

/-- The write and the single read that follows it are answered. -/
theorem TransportAnswers.exists_read {s : State} (h : TransportAnswers s) :
    ∃ a ws b rs, s.writeScript = some a :: ws ∧ s.readScript = some b :: rs := by
  obtain ⟨a, ws, answers, rest, hw, hlen, hr⟩ := h
  obtain ⟨b, bs, rfl⟩ := List.exists_of_length_succ answers hlen
  exact ⟨a, ws, b, bs.map some ++ rest, hw, hr⟩

theorem statusThen_busy {k : State → State} (hk : ∀ u, (k u).busy = false) {s : State}
    (h : TransportAnswers s) : (statusThen k s).busy = false := by
  obtain ⟨a, ws, b, rs, hw, hr⟩ := h.exists_read
  rw [statusThen]
  split
  · exact hk _
  · rw [statusMiss_eq]
    refine writeThen_busy hw fun u hu => ?_
    exact readThen_busy (by rw [recordAbf_readScript, hu, hr])
      (checkedWord_busy fun w v => hk (cacheStatus w v))

/-- Where the transport answers, every operation ends. -/
theorem exec_busy {i : Instr} {s t : State} (h : TransportAnswers s) (ht : exec i s = .next t) :
    t.busy = false := by
  have hbegun : TransportAnswers (begun i s) := h
  obtain ⟨a, ws, b, rs, hw, hr⟩ := hbegun.exists_read
  have hnext : ∀ {u}, exec i s = .next u → u.busy = false → t.busy = false := by
    intro u hu hb
    rw [ht] at hu
    exact Host.Outcome.next.inj hu ▸ hb
  cases form i with
  | pure hi => exact (end_of_exec ht).busy_of_pure hi
  | illFormed hi => exact hnext (exec_of_illFormed hi s) rfl
  | singleShot r conv hi =>
    refine hnext (exec_singleShot s hi) (writeThen_busy hw fun u hu => ?_)
    exact readThen_busy (by rw [wait_readScript, recordAbf_readScript, hu, hr]) (finishSample_busy conv)
  | startPeriodic c r hi => exact hnext (exec_startPeriodic s hi) (writeThen_busy hw fun _ _ => rfl)
  | fetch conv hi =>
    cases ha : activeSession s with
    | none =>
      exact hnext (exec_fetch_inactive s (opOf_of_mem_fetchForms hi) (congrArg Option.isSome ha)) rfl
    | some x =>
      obtain ⟨-, -, answers, rest, -, hlen, hreads⟩ := hbegun
      exact hnext (exec_fetch_active s hi ha)
        (writeThen_busy hw fun u hu => fetchLoop_busy conv hlen (hu.trans hreads))
  | brk hi => exact hnext (exec_brk s hi) (writeThen_busy hw fun _ _ => rfl)
  | reset hi => exact hnext (exec_reset s hi) (writeThen_busy hw fun _ _ => rfl)
  | statusCommand f hi => exact hnext (exec_statusCommand s hi) (writeThen_busy hw fun _ _ => rfl)
  | statusRead hi => exact hnext (exec_statusRead s hi) (statusThen_busy (fun _ => rfl) hbegun)
  | predicate f hi => exact hnext (exec_predicate s hi) (statusThen_busy (fun _ => rfl) hbegun)
  | alertRead thr hi =>
    refine hnext (exec_alertRead s hi) (writeThen_busy hw fun u hu => ?_)
    exact readThen_busy (by rw [recordAbf_readScript, hu, hr]) (checkedWord_busy fun _ _ => rfl)
  | alertWrite thr hi =>
    by_cases hd : celsius? s.a0 = none ∨ percent? s.a1 = none
    · exact hnext (exec_alertWrite_refused s hi hd) rfl
    obtain ⟨hx, hy⟩ := not_or.1 hd
    obtain ⟨x, hx⟩ := Option.ne_none_iff_exists'.1 hx
    obtain ⟨y, hy⟩ := Option.ne_none_iff_exists'.1 hy
    exact hnext (exec_alertWrite s hi hx hy) (writeThen_busy hw fun _ _ => rfl)

/-- Settles O48: every run has an end, and a hang needs a transport that does not answer. -/
theorem everyOperationEnds : Obligations.EveryOperationEnds := by
  intro i s
  obtain ⟨t, ht, hend⟩ := exec_end i s
  refine ⟨t, ht, hend.fsm, hend.busy_of_pure, fun a ws answers rest hw hlen hr => ?answered, hend.frame⟩
  case answered => exact exec_busy ⟨a, ws, answers, rest, hw, hlen, hr⟩ ht

end Sys2Proof.Machine
end

section
/-! Sound states: what one run keeps, and with it what one step keeps. -/

namespace Sys2Proof.Machine
open Sys2Proof.Config Sys2Proof.Safety

/-! ## The physical results (R34) -/

/-- With exact conversions the physical results are in range and held twice alike: the second part of
`ResultsOk`. -/
def PhysicalOk (s : State) : Prop :=
  s.params.convArith = .exact →
    (-4500 ≤ s.rTcenti.toInt ∧ s.rTcenti.toInt ≤ 13000 ∧ s.rTf32 = b32Centi s.rTcenti.toInt) ∧
    (s.rRhcenti.toNat ≤ 10000 ∧ s.rRhf32 = b32Centi s.rRhcenti.toNat)

theorem toNat_le_toNat_FFFF (code : Word) : code.toNat ≤ (0xFFFF#16).toNat := by
  have := code.isLt
  simp only [BitVec.toNat_ofNat]
  omega

/-- The range of the exact temperature results (R141). -/
theorem tCenti_exact_range (code : Word) :
    -4500 ≤ tCenti .exact code ∧ tCenti .exact code ≤ 13000 := by
  obtain ⟨-, hlow, hhigh, hmono⟩ := tCentiFormula
  rw [← hlow, ← hhigh]
  exact ⟨hmono _ _ (Nat.zero_le _), hmono _ _ (toNat_le_toNat_FFFF code)⟩

/-- The range of the exact humidity results (R142). -/
theorem rhCenti_exact_range (code : Word) :
    0 ≤ rhCenti .exact code ∧ rhCenti .exact code ≤ 10000 := by
  obtain ⟨-, hlow, hhigh, hmono⟩ := rhCentiFormula
  rw [← hhigh]
  refine ⟨?_, hmono _ _ (toNat_le_toNat_FFFF code)⟩
  rw [← hlow]
  exact hmono _ _ (Nat.zero_le _)

theorem toInt_ofInt_of_range {c : ℤ} (hlow : -4500 ≤ c) (hhigh : c ≤ 13000) :
    (BitVec.ofInt 16 c).toInt = c := by
  rw [BitVec.toInt_ofInt]
  exact Int.bmod_eq_of_le (by omega) (by omega)

theorem toNat_ofInt_of_range {c : ℤ} (hlow : 0 ≤ c) (hhigh : c < 65536) :
    ((BitVec.ofInt 16 c).toNat : ℤ) = c := by
  rw [BitVec.toNat_ofInt]
  omega

theorem physicalOk_putCelsius (code : Word) {s : State} (h : PhysicalOk s) :
    PhysicalOk (putCelsius code s) := by
  intro harith
  obtain ⟨-, hhumidity⟩ := h harith
  obtain ⟨hlow, hhigh⟩ := tCenti_exact_range code
  have harith' : s.params.convArith = .exact := harith
  refine ⟨?_, hhumidity⟩
  rw [putCelsius, harith', toInt_ofInt_of_range hlow hhigh]
  exact ⟨hlow, hhigh, rfl⟩

theorem physicalOk_putPercent (code : Word) {s : State} (h : PhysicalOk s) :
    PhysicalOk (putPercent code s) := by
  intro harith
  obtain ⟨htemperature, -⟩ := h harith
  obtain ⟨hlow, hhigh⟩ := rhCenti_exact_range code
  have harith' : s.params.convArith = .exact := harith
  have hvalue := toNat_ofInt_of_range hlow (by omega)
  refine ⟨htemperature, ?_⟩
  have hrange : (BitVec.ofInt 16 (rhCenti .exact code)).toNat ≤ 10000 := by omega
  rw [putPercent, harith', hvalue]
  exact ⟨hrange, rfl⟩

theorem physicalOk_deliverSample (conv : Bool) (tc hc : Word) {s : State} (h : PhysicalOk s) :
    PhysicalOk (deliverSample conv tc hc s) := by
  have hcodes : PhysicalOk { s with rTcode := tc, rRhcode := hc } := h
  cases conv with
  | false => exact hcodes
  | true => exact physicalOk_putPercent hc (physicalOk_putCelsius tc hcodes)

theorem Writes.physicalOk {o : Op} {v u : State} (h : Writes o v u) (hv : PhysicalOk v) :
    PhysicalOk u := by
  cases h with
  | code2c code => exact physicalOk_putCelsius code hv
  | code2rh code => exact physicalOk_putPercent code hv
  | sample _ conv tc hc => exact physicalOk_deliverSample conv tc hc hv
  | alertRead w => exact physicalOk_putPercent _ (physicalOk_putCelsius _ hv)
  | _ => exact hv

theorem Handled.physicalOk {i : Instr} {s v : State} {m : Moved} (hv : Handled i s m v)
    (h : PhysicalOk s) : PhysicalOk v := by
  rw [hv.frame]
  exact h

/-! ## One run -/

/-- A sound state in which an operation is about to run: BUSY is set, and FSM is still `quiescent()`
(R28, R31). -/
structure Ready (s : State) : Prop where
  params : ParamsOk s.params
  fsm : s.fsm = quiescent s
  handle : HandleOk s
  counters : CountersOk s
  results : ResultsOk s

/-- The invariant of the handle registers speaks of them and of the parameters alone (R27). -/
theorem handleOk_congr {s t : State} (hlc : t.lastCmd = s.lastCmd) (hcad : t.cadence = s.cadence)
    (hres : t.resolution = s.resolution) (hparams : t.params = s.params) (h : HandleOk s) :
    HandleOk t := by
  intro c hc hperiodic
  rw [hparams] at hperiodic
  rw [hcad, hres, hparams]
  exact h c (hlc.symm.trans hc) hperiodic

theorem handleOk_of_not_periodic {s : State} {c : Word} (hlc : s.lastCmd = some c)
    (hc : isPeriodic s.params.cmd c = false) : HandleOk s := by
  intro c' hc' hperiodic
  rw [hlc] at hc'
  obtain rfl := Option.some.inj hc'
  rw [hc] at hperiodic
  cases hperiodic

theorem Allowed.handleOk {i : Instr} {s : State} {r w : ℕ} {m : Moved} (hm : Allowed i s r w m)
    (hp : TableOk s.params) (h : HandleOk s) : HandleOk (moved i m s) := by
  rcases hm.lastCmd with hlc | ⟨-, n, hn, hne, hlc⟩
  · exact handleOk_congr hlc rfl rfl rfl h
  · cases hpolicy : s.params.lcPolicy with
    | startBreakOnly =>
      exact handleOk_congr (hlc.trans (recorded_startBreakOnly hpolicy _)) rfl rfl rfl h
    | allButFetch =>
      rw [recorded_allButFetch hpolicy] at hlc
      obtain ⟨-, -, hothers⟩ := hp
      exact handleOk_of_not_periodic hlc (hothers hpolicy n hn hne)

theorem Handled.handleOk {i : Instr} {s v : State} {m : Moved} (hv : Handled i s m v)
    (hm : Allowed i s 6 5 m) (hp : TableOk s.params) (h : HandleOk s) : HandleOk v := by
  cases hv with
  | session c r =>
    intro w hw _
    exact ⟨c, r, rfl, rfl, (Option.some.inj hw).symm⟩
  | brk =>
    obtain ⟨-, hbrk, -⟩ := hp
    exact handleOk_of_not_periodic rfl hbrk
  | cached | kept => exact hm.handleOk hp h

theorem retryWait_le (c : Cadence) (k : ℕ) : retryWait (tInterval c) k ≤ 2000000 := by
  have hinterval : tInterval c ≤ 2000000 := by cases c <;> decide
  rw [retryWait]
  split <;> omega

theorem fetchCounters_ok {s : State} {retry : BitVec 3} {waitUs : BitVec 21}
    (h : FetchCounters s retry waitUs) : retry.toNat ≤ 5 ∧ waitUs.toNat ≤ 2000000 := by
  obtain ⟨k, c, r, -, -, rfl, rfl⟩ := h
  refine ⟨?_, ?_⟩
  · have := Nat.mod_le (5 - k) (2 ^ 3)
    rw [BitVec.toNat_ofNat]
    omega
  · rw [waitUsAfter_toNat]
    exact retryWait_le c k

theorem Allowed.countersOk {i : Instr} {s : State} {r w : ℕ} {m : Moved} (hm : Allowed i s r w m)
    (h : CountersOk s) : CountersOk (moved i m s) := by
  rcases hm.counters with ⟨hretry, hwait⟩ | ⟨-, hcounters⟩
  · obtain ⟨hr, hw⟩ := h
    exact ⟨(congrArg BitVec.toNat hretry).trans_le hr, (congrArg BitVec.toNat hwait).trans_le hw⟩
  · exact fetchCounters_ok hcounters

/-- A hanging operation stands in FetchPending only where its validation passed (R30, R204). -/
theorem Ready.fsmOk_hang {i : Instr} {s : State} {r w : ℕ} {m : Moved} (hs : Ready s)
    (hm : Allowed i s r w m) (ha : opOf i = .fetch → sessionActive s = true) :
    FsmOk (hang (moved i m s)) := by
  refine ⟨nofun, fun _ hfsm => ?_⟩
  have hinside : fsmInside i s = .fetchPending := hfsm
  by_cases hop : opOf i = .fetch
  · have hsame : activeSession (moved i m s) = activeSession s :=
      activeSession_congr (hm.lastCmd_fetch hop) rfl rfl rfl
    exact (sessionActive_eq_of_activeSession hsame).trans (ha hop)
  · rw [fsmInside, if_neg hop, hs.fsm, quiescent] at hinside
    split at hinside
    · cases hinside
    · split at hinside <;> cases hinside

/-- An operation that ends with an error before its first step. -/
theorem Ready.sound_raise {s : State} (hs : Ready s) (e : ErrCode) : Sound (raise e s) := by
  obtain ⟨-, hphysical⟩ := hs.results
  exact ⟨hs.params, ⟨fun _ => rfl, nofun⟩, hs.handle, hs.counters, .inr ⟨e, rfl⟩, hphysical⟩

/-- A run that starts from a ready state leads to a sound one. -/
theorem End.sound {i : Instr} {s t : State} (h : End i s t) (hs : Ready s) : Sound t := by
  obtain ⟨htable, -⟩ := hs.params
  obtain ⟨herr, hphysical⟩ := hs.results
  have hfsm : t.busy = false → FsmOk t := fun hb =>
    ⟨fun _ => h.fsm hb, fun hb' => by rw [hb] at hb'; cases hb'⟩
  have hparams : ParamsOk t.params := by
    obtain ⟨-, -, -, -, hp⟩ := h.frame
    rw [hp]
    exact hs.params
  cases h with
  | refused => exact hs.sound_raise .invalidRequest
  | failed hm _ e =>
    exact ⟨hparams, hfsm rfl, hm.handleOk htable hs.handle, hm.countersOk hs.counters, .inr ⟨e, rfl⟩,
      hphysical⟩
  | hung hm _ ha =>
    exact ⟨hparams, hs.fsmOk_hang hm ha, hm.handleOk htable hs.handle, hm.countersOk hs.counters, herr,
      hphysical⟩
  | pure _ hu =>
    have hresults := hu.physicalOk hphysical
    refine ⟨hparams, hfsm rfl, ?_, ?_, .inl rfl, hresults⟩
    · rw [hu.frame]
      exact hs.handle
    · rw [hu.frame]
      exact hs.counters
  | completed hm hv hu =>
    have hresults := hu.physicalOk (hv.physicalOk hphysical)
    refine ⟨hparams, hfsm rfl, ?_, ?_, .inl rfl, hresults⟩
    · rw [hu.frame]
      exact hv.handleOk hm htable hs.handle
    · rw [hu.frame, hv.frame]
      exact hm.countersOk hs.counters

/-! ## One step -/

/-- The acceptance of a request, or of a run asked for by name, makes a sound state ready (R28). -/
theorem ready_of_sound {s u : State} (hs : Sound s) (hb : s.busy = false) (hfsm : u.fsm = s.fsm)
    (hlc : u.lastCmd = s.lastCmd) (hcad : u.cadence = s.cadence) (hres : u.resolution = s.resolution)
    (hparams : u.params = s.params) (hcounters : CountersOk u) (hresults : ResultsOk u) : Ready u := by
  obtain ⟨hp, ⟨hq, -⟩, hhandle, -, -⟩ := hs
  exact
    { params := hparams ▸ hp
      fsm := by rw [hfsm, hq hb, quiescent_congr u s hlc hcad hres hparams]
      handle := handleOk_congr hlc hcad hres hparams hhandle
      counters := hcounters
      results := hresults }

/-- Settles O49: a write of an argument register touches nothing the invariant speaks of; every other input is
a run from a ready state. -/
theorem stepKeepsSound : Obligations.StepKeepsSound := by
  intro s t hs hstep
  obtain ⟨-, -, -, hcounters, hresults⟩ := id hs
  cases hin : s.inputs with
  | nil =>
    rw [step_idle hin] at hstep
    cases hstep
    exact hs
  | cons x rest =>
    cases hb : s.busy with
    | true =>
      rw [step_overlap hb hin] at hstep
      cases hstep
    | false =>
      cases x with
      | writeA0 v =>
        rw [step_writeA0 hb hin] at hstep
        cases hstep
        exact hs
      | writeA1 v =>
        rw [step_writeA1 hb hin] at hstep
        cases hstep
        exact hs
      | writeReq w =>
        have hready : Ready (acceptRequest w rest s) :=
          ready_of_sound hs hb rfl rfl rfl rfl rfl hcounters hresults
        cases hd : decodeReq s.params.hostop w with
        | ok i =>
          rw [step_request hb hin hd] at hstep
          exact (end_of_exec hstep).sound hready
        | error e =>
          rw [step_illegal hb hin hd] at hstep
          cases hstep
          exact hready.sound_raise .invalidRequest
      | emit c =>
        rw [step_emit hb hin] at hstep
        exact (end_of_exec hstep).sound (ready_of_sound hs hb rfl rfl rfl rfl rfl hcounters hresults)

end Sys2Proof.Machine
end

section
/-! Value to code to value (R150): each rounding loses at most what its definition allows, and the sum stays
below one hundredth. -/

namespace Sys2Proof.Machine
open Sys2Proof.Config

/-- Rounding to nearest is off by at most a half. -/
theorem abs_rhazDiv_sub_le (n : ℤ) {d : ℕ} (hd : 0 < d) :
    |(rhazDiv n d : ℚ) - (n : ℚ) / d| ≤ 1 / 2 := by
  rw [rhazDiv_eq_ite_floor n hd]
  generalize (n : ℚ) / d = x
  split
  · have hle := Int.floor_le (x + 1 / 2)
    have hlt := Int.lt_floor_add_one (x + 1 / 2)
    rw [abs_le]
    constructor <;> linarith
  · have hle := Int.floor_le (-x + 1 / 2)
    have hlt := Int.lt_floor_add_one (-x + 1 / 2)
    push_cast
    rw [abs_le]
    constructor <;> linarith

/-- Either rounding of the inverse conversions is off by less than one. -/
theorem abs_invRound_sub_lt (r : InvRounding) {n : ℤ} {d : ℕ} (hd : 0 < d) (hn : 0 ≤ n) :
    |(invRound r n d : ℚ) - (n : ℚ) / d| < 1 := by
  cases r with
  | truncate =>
    rw [invRound, truncDiv_eq_floor_of_nonneg d hn]
    have hle := Int.floor_le ((n : ℚ) / d)
    have hlt := Int.lt_floor_add_one ((n : ℚ) / d)
    rw [abs_lt]
    constructor <;> linarith
  | nearest => exact (abs_rhazDiv_sub_le n hd).trans_lt (by norm_num)

/-- The exact temperature result is within half a hundredth of the formula. -/
theorem abs_tCentiExact_sub_le (code : Word) :
    |(tCentiExact code : ℚ) - 100 * ((code.toNat : ℚ) * 175 / 65535 - 45)| ≤ 1 / 2 := by
  rw [celsius_formula_eq_div]
  exact abs_rhazDiv_sub_le _ (by decide)

theorem abs_rhCentiExact_sub_le (code : Word) :
    |(rhCentiExact code : ℚ) - 100 * ((code.toNat : ℚ) * 100 / 65535)| ≤ 1 / 2 := by
  rw [percent_formula_eq_div, rhCentiExact_eq_rhazDiv]
  exact abs_rhazDiv_sub_le _ (by decide)

/-- A code of the inverse conversions is the value of the word that holds it. -/
theorem toNat_ofInt_code {c : ℤ} (h : 0 ≤ c ∧ c ≤ 65535) : ((BitVec.ofInt 16 c).toNat : ℚ) = c := by
  obtain ⟨hlow, hhigh⟩ := h
  exact_mod_cast toNat_ofInt_of_range hlow (by omega)

/-- The code of a temperature is within one of its exact formula (R146). -/
theorem abs_tCode_sub_lt (r : InvRounding) {n : ℤ} {d : ℕ} (hd : 0 < d) (hlow : (-45 : ℤ) * d ≤ n) :
    |(tCode r n d : ℚ) - ((n : ℚ) / d + 45) * 65535 / 175| < 1 := by
  have hquot : ((n : ℚ) / d + 45) * 65535 / 175 = (((n + 45 * d) * 65535 : ℤ) : ℚ) / (175 * d : ℕ) := by
    push_cast
    field_simp
  rw [hquot]
  exact abs_invRound_sub_lt r (by omega) (by omega)

/-- The code of a humidity is within one of its exact formula (R147). -/
theorem abs_rhCode_sub_lt (r : InvRounding) {n : ℤ} {d : ℕ} (hd : 0 < d) (hlow : 0 ≤ n) :
    |(rhCode r n d : ℚ) - (n : ℚ) / d * 65535 / 100| < 1 := by
  have hquot : (n : ℚ) / d * 65535 / 100 = ((n * 65535 : ℤ) : ℚ) / (100 * d : ℕ) := by
    push_cast
    field_simp
  rw [hquot]
  exact abs_invRound_sub_lt r (by omega) (by omega)

/-- Settles O14: less than one code on the way there, half a hundredth on the way back. -/
theorem valueRoundTripWithinHundredth : Obligations.ValueRoundTripWithinHundredth := by
  refine ⟨fun r n d hd hlow hhigh => ?celsius, fun r n d hd hlow hhigh => ?percent⟩
  case celsius =>
    obtain ⟨-, -, -, hrange⟩ := tCodeFormula.1 n d hd hlow hhigh
    have hcode := abs_tCode_sub_lt r hd hlow
    have hvalue := abs_tCentiExact_sub_le (BitVec.ofInt 16 (tCode r n d))
    rw [toNat_ofInt_code (hrange r), abs_le] at hvalue
    rw [abs_lt] at hcode
    rw [tCenti, abs_lt]
    obtain ⟨hv1, hv2⟩ := hvalue
    obtain ⟨hc1, hc2⟩ := hcode
    constructor <;> linarith
  case percent =>
    obtain ⟨-, -, -, hrange⟩ := rhCodeFormula.1 n d hd hlow hhigh
    have hcode := abs_rhCode_sub_lt r hd hlow
    have hvalue := abs_rhCentiExact_sub_le (BitVec.ofInt 16 (rhCode r n d))
    rw [toNat_ofInt_code (hrange r), abs_le] at hvalue
    rw [abs_lt] at hcode
    rw [rhCenti, abs_lt]
    obtain ⟨hv1, hv2⟩ := hvalue
    obtain ⟨hc1, hc2⟩ := hcode
    constructor <;> linarith

end Sys2Proof.Machine
end

section
/-! The binary32 rounding of R10. A finite binary32 is a whole number `q * 2^e` of units of 2^-149; the rounding
picks the exponent from the size of the quotient and the nearest `q`. -/

namespace Sys2Proof.Machine
open Sys2Proof.Safety

/-! ## The exponent -/

theorem two_zpow_le_div_iff {n d k j : ℕ} (hd : 0 < d) :
    (2 : ℚ) ^ ((k : ℤ) - j) ≤ (n : ℚ) / d ↔ d * 2 ^ (k - j) ≤ n * 2 ^ (j - k) := by
  have hd' : (0 : ℚ) < d := Nat.cast_pos.2 hd
  rcases le_total j k with h | h
  · rw [Nat.sub_eq_zero_of_le h, ← Nat.cast_sub h, zpow_natCast, le_div_iff₀ hd', mul_comm]
    norm_cast
    simp
  · rw [Nat.sub_eq_zero_of_le h, ← neg_sub, ← Nat.cast_sub h, zpow_neg, zpow_natCast,
      le_div_iff₀ hd', inv_mul_le_iff₀ (by positivity), mul_comm (2 ^ (j - k) : ℚ)]
    norm_cast
    simp

/-- `floorLog2Div` is the exponent of the quotient. -/
theorem floorLog2Div_spec {n d : ℕ} (hn : 0 < n) (hd : 0 < d) :
    (2 : ℚ) ^ floorLog2Div n d ≤ (n : ℚ) / d ∧ (n : ℚ) / d < 2 ^ (floorLog2Div n d + 1) := by
  have hd' : (0 : ℚ) < d := Nat.cast_pos.2 hd
  have hnlow : (2 : ℚ) ^ (n.log2 : ℤ) ≤ n := by exact_mod_cast Nat.log2_self_le hn.ne'
  have hnhigh : (n : ℚ) < 2 ^ ((n.log2 : ℤ) + 1) := by exact_mod_cast Nat.lt_log2_self
  have hdlow : (2 : ℚ) ^ (d.log2 : ℤ) ≤ d := by exact_mod_cast Nat.log2_self_le hd.ne'
  have hdhigh : (d : ℚ) < 2 ^ ((d.log2 : ℤ) + 1) := by exact_mod_cast Nat.lt_log2_self
  simp only [floorLog2Div]
  split
  next htest =>
    refine ⟨(two_zpow_le_div_iff hd).2 htest, ?_⟩
    rw [div_lt_iff₀ hd', show (n.log2 : ℤ) - d.log2 + 1 = (n.log2 + 1) - d.log2 by ring,
      zpow_sub₀ two_ne_zero, div_mul_eq_mul_div, lt_div_iff₀ (by positivity)]
    exact mul_lt_mul_of_pos_of_nonneg' hnhigh hdlow (by positivity) (by positivity)
  next htest =>
    constructor
    · rw [le_div_iff₀ hd', show (n.log2 : ℤ) - d.log2 - 1 = n.log2 - (d.log2 + 1) by ring,
        zpow_sub₀ two_ne_zero, div_mul_eq_mul_div, div_le_iff₀ (by positivity)]
      exact mul_le_mul hnlow hdhigh.le (by positivity) (by positivity)
    · rw [sub_add_cancel]
      exact not_le.1 (mt (two_zpow_le_div_iff hd).1 htest)

/-! ## The significand -/

theorem abs_roundHalfEven_sub_le (n : ℕ) {d : ℕ} (hd : 0 < d) :
    |(n : ℚ) / d - roundHalfEven n d| ≤ 1 / 2 := by
  have hd' : (0 : ℚ) < d := Nat.cast_pos.2 hd
  have hsplit : ((d * (n / d) + n % d : ℕ) : ℚ) = n := by rw [Nat.div_add_mod]
  have hquot : (n : ℚ) / d = (n / d : ℕ) + (n % d : ℕ) / d := by
    rw [← hsplit]
    push_cast
    field_simp
  have hpos : (0 : ℚ) ≤ (n % d : ℕ) / d := by positivity
  have hlt : ((n % d : ℕ) : ℚ) / d < 1 := by
    rw [div_lt_one hd']
    exact_mod_cast Nat.mod_lt n hd
  have hbelow (h : 2 * (n % d) ≤ d) : ((n % d : ℕ) : ℚ) / d ≤ 1 / 2 := by
    rw [div_le_div_iff₀ hd' two_pos]
    exact_mod_cast (by omega : n % d * 2 ≤ 1 * d)
  have habove (h : d ≤ 2 * (n % d)) : (1 / 2 : ℚ) ≤ (n % d : ℕ) / d := by
    rw [div_le_div_iff₀ two_pos hd']
    exact_mod_cast (by omega : 1 * d ≤ n % d * 2)
  have hdown (h : 2 * (n % d) ≤ d) : |(n : ℚ) / d - (n / d : ℕ)| ≤ 1 / 2 := by
    rw [hquot, add_sub_cancel_left, abs_of_nonneg hpos]
    exact hbelow h
  have hup (h : d ≤ 2 * (n % d)) : |(n : ℚ) / d - (n / d + 1 : ℕ)| ≤ 1 / 2 := by
    rw [hquot, Nat.cast_succ, abs_le]
    constructor <;> linarith [habove h]
  simp only [roundHalfEven]
  split_ifs with hlow hhigh
  · exact hdown hlow.le
  · exact hup hhigh.le
  · exact hdown (not_lt.1 hhigh)
  · exact hup (not_lt.1 hlow)

/-- The binary32 `q * 2^e` is a nearest one to `x`, all in units of 2^-149: `q` is `x` in units of `2^e`, rounded,
and `e` is the exponent of the significand's last place, least where the quotient is subnormal. -/
structure Rounded (x : ℚ) (e q : ℕ) : Prop where
  near : |x - q * 2 ^ e| ≤ 2 ^ e / 2
  normal : e = 0 ∨ 2 ^ 23 * 2 ^ e ≤ x
  small : x < 2 ^ 24 * 2 ^ e

namespace Rounded

variable {x : ℚ} {e q : ℕ}

theorem zero : Rounded 0 0 0 := ⟨by norm_num, .inl rfl, by norm_num⟩

theorem le_two_pow (h : Rounded x e q) : q ≤ 2 ^ 24 := by
  have hpow : (0 : ℚ) < 2 ^ e := by positivity
  have hnear := (abs_le.1 h.near).1
  have hlt : (q : ℚ) * 2 ^ e < (2 ^ 24 + 1 : ℕ) * 2 ^ e := by
    push_cast
    linarith [h.small]
  exact Nat.le_of_lt_succ (by exact_mod_cast lt_of_mul_lt_mul_right hlt hpow.le)

theorem two_pow_le (h : Rounded x e q) : e = 0 ∨ 2 ^ 23 ≤ q := by
  refine h.normal.imp_right fun hnormal => ?_
  have hpow : (0 : ℚ) < 2 ^ e := by positivity
  have hnear := (abs_le.1 h.near).2
  have hlt : ((2 ^ 23 : ℕ) : ℚ) * 2 ^ e < (q + 1 : ℕ) * 2 ^ e := by
    push_cast
    linarith
  exact Nat.le_of_lt_succ (by exact_mod_cast lt_of_mul_lt_mul_right hlt hpow.le)

/-- Half a unit of the last place, relative to the value. -/
theorem relative_error (h : Rounded x e q) : |x - q * 2 ^ e| ≤ |x| / 2 ^ 24 + 1 / 2 := by
  refine h.near.trans ?_
  rcases h.normal with rfl | hnormal
  · norm_num
    positivity
  · linarith [le_abs_self x]

/-- No whole multiple of `2^e` is nearer, and no value below the significand's range either. -/
theorem abs_sub_le_abs_sub (h : Rounded x e q) {g : ℤ} (hg : (2 : ℤ) ^ e ∣ g ∨ |g| ≤ 2 ^ 23 * 2 ^ e) :
    |x - q * 2 ^ e| ≤ |x - g| := by
  have hpow : (0 : ℚ) < 2 ^ e := by positivity
  have hmultiple (k : ℤ) : |x - q * 2 ^ e| ≤ |x - k * 2 ^ e| := by
    rcases eq_or_ne k q with rfl | hne
    · simp
    · have hone : (1 : ℚ) ≤ |(k : ℚ) - q| := by exact_mod_cast Int.one_le_abs (sub_ne_zero.2 hne)
      have hapart : (2 : ℚ) ^ e ≤ |(k : ℚ) * 2 ^ e - q * 2 ^ e| := by
        rw [← sub_mul, abs_mul, abs_of_pos hpow]
        exact le_mul_of_one_le_left hpow.le hone
      have htriangle := abs_sub_le (k * 2 ^ e : ℚ) x (q * 2 ^ e)
      rw [abs_sub_comm _ x] at htriangle
      linarith [h.near]
  rcases hg with ⟨k, rfl⟩ | hg
  · have := hmultiple k
    push_cast
    rwa [mul_comm _ (k : ℚ)]
  · rcases h.normal with rfl | hnormal
    · simpa using hmultiple g
    · have hgle : (g : ℚ) ≤ 2 ^ 23 * 2 ^ e := by exact_mod_cast (le_abs_self g).trans hg
      refine (hmultiple (2 ^ 23)).trans ?_
      push_cast
      rw [abs_of_nonneg (by linarith), abs_of_nonneg (by linarith)]
      linarith

end Rounded

/-- The quotient in units of `2^u`, rounded. -/
theorem abs_significand_sub_le (n : ℕ) {d : ℕ} (hd : 0 < d) (u : ℤ) :
    |(n : ℚ) / d / 2 ^ u - (if 0 ≤ u then roundHalfEven n (d * 2 ^ u.toNat)
      else roundHalfEven (n * 2 ^ (-u).toNat) d : ℕ)| ≤ 1 / 2 := by
  split
  next hnonneg =>
    obtain ⟨k, rfl⟩ := Int.eq_ofNat_of_zero_le hnonneg
    rw [zpow_natCast, div_div, Int.toNat_natCast]
    exact_mod_cast abs_roundHalfEven_sub_le n (d := d * 2 ^ k) (by positivity)
  next hneg =>
    obtain ⟨k, rfl⟩ : ∃ k : ℕ, u = -k := ⟨u.natAbs, by omega⟩
    rw [zpow_neg, div_inv_eq_mul, zpow_natCast, div_mul_eq_mul_div, neg_neg, Int.toNat_natCast]
    exact_mod_cast abs_roundHalfEven_sub_le (n * 2 ^ k) hd

/-- The pattern of a quotient below 2^24: its significand, and the exponent of its last place. -/
theorem exists_rounded (n : ℕ) {d : ℕ} (hd : 0 < d) (hlt : (n : ℚ) / d < 2 ^ 24) :
    ∃ e q, e ≤ 149 ∧ Rounded ((n : ℚ) / d * 2 ^ 149) e q ∧ b32Mag n d = e * 2 ^ 23 + q := by
  rcases Nat.eq_zero_or_pos n with rfl | hn
  · exact ⟨0, 0, by decide, by simpa using Rounded.zero, rfl⟩
  obtain ⟨hlow, hhigh⟩ := floorLog2Div_spec hn hd
  rw [b32Mag, if_neg hn.ne']
  have hp : floorLog2Div n d < 24 := (zpow_lt_zpow_iff_right₀ one_lt_two).1 (hlow.trans_lt hlt)
  generalize floorLog2Div n d = p at *
  obtain ⟨e, he⟩ : ∃ e : ℕ, max (p - 23) (-149) = e - 149 :=
    ⟨(max (p - 23) (-149) + 149).toNat, by omega⟩
  have hsignificand := abs_significand_sub_le n hd (e - 149)
  simp only [he]
  generalize (if (0 : ℤ) ≤ e - 149 then roundHalfEven n (d * 2 ^ ((e : ℤ) - 149).toNat)
    else roundHalfEven (n * 2 ^ (-((e : ℤ) - 149)).toNat) d) = q at *
  generalize (n : ℚ) / d = x at *
  have hscale : (2 : ℚ) ^ ((e : ℤ) - 149) * 2 ^ 149 = 2 ^ e := by
    rw [zpow_sub₀ two_ne_zero]
    norm_cast
    simp
  have hrounded : Rounded (x * 2 ^ 149) e q := by
    refine ⟨?near, ?normal, ?small⟩
    case near =>
      have hpos : (0 : ℚ) < 2 ^ ((e : ℤ) - 149) := by positivity
      have hx : x * 2 ^ 149 - q * 2 ^ e = (x / 2 ^ ((e : ℤ) - 149) - q) * 2 ^ e := by
        rw [← hscale]
        field_simp
      rw [hx, abs_mul, abs_of_pos (by positivity : (0 : ℚ) < 2 ^ e)]
      exact (mul_le_mul_of_nonneg_right hsignificand (by positivity)).trans_eq (by ring)
    case normal =>
      refine (Nat.eq_zero_or_pos e).imp_right fun hpos => ?_
      have hle : (2 : ℚ) ^ ((e : ℤ) - 149 + 23) ≤ x := by
        rwa [show (e : ℤ) - 149 + 23 = p by omega]
      rw [zpow_add₀ two_ne_zero] at hle
      rw [← hscale]
      calc (2 : ℚ) ^ 23 * (2 ^ ((e : ℤ) - 149) * 2 ^ 149)
          = 2 ^ ((e : ℤ) - 149) * 2 ^ (23 : ℤ) * 2 ^ 149 := by norm_cast; ring
        _ ≤ x * 2 ^ 149 := by gcongr
    case small =>
      have hle : x < (2 : ℚ) ^ ((e : ℤ) - 149 + 24) :=
        hhigh.trans_le (zpow_le_zpow_right₀ one_le_two (by omega))
      rw [zpow_add₀ two_ne_zero] at hle
      rw [← hscale]
      calc x * 2 ^ 149 < 2 ^ ((e : ℤ) - 149) * 2 ^ (24 : ℤ) * 2 ^ 149 := by gcongr
        _ = 2 ^ 24 * (2 ^ ((e : ℤ) - 149) * 2 ^ 149) := by norm_cast; ring
  refine ⟨e, q, by omega, hrounded, ?_⟩
  have hq := hrounded.le_two_pow
  rw [sub_add_cancel, Int.toNat_natCast, min_eq_left (by omega)]

/-! ## The pattern -/

theorem f32Exp_eq (f : Word32) : f32Exp f = f.toNat / 2 ^ 23 % 2 ^ 8 := by
  simp [f32Exp, BitVec.extractLsb'_toNat, Nat.shiftRight_eq_div_pow]

theorem f32Frac_eq (f : Word32) : f32Frac f = f.toNat % 2 ^ 23 := by
  simp [f32Frac, BitVec.extractLsb'_toNat]

theorem f32Frac_lt (f : Word32) : f32Frac f < 2 ^ 23 := BitVec.isLt _

/-- A pattern counted from the exponent of the significand's last place is finite and reads back, also where the
rounding carried out of the significand. -/
theorem f32_of_rounded {f : Word32} {s e q : ℕ} (hf : f.toNat = s * 2 ^ 31 + (e * 2 ^ 23 + q))
    (he : e ≤ 149) (hlow : e = 0 ∨ 2 ^ 23 ≤ q) (hhigh : q ≤ 2 ^ 24) :
    f32Finite f = true ∧ f32Mag f = q * 2 ^ e := by
  have hexp := f32Exp_eq f
  have hfrac := f32Frac_eq f
  rw [f32Finite, f32Mag, bne_iff_ne]
  rcases lt_trichotomy q (2 ^ 24) with hlt | rfl | hgt
  · rcases lt_or_ge q (2 ^ 23) with hsub | hnormal
    · obtain rfl : e = 0 := by omega
      rw [show f32Exp f = 0 by omega, show f32Frac f = q by omega]
      simp
    · rw [show f32Exp f = e + 1 by omega, show f32Frac f = q - 2 ^ 23 by omega]
      refine ⟨by omega, ?_⟩
      rw [if_neg (by omega), Nat.add_sub_cancel, Nat.add_sub_cancel' hnormal]
  · rw [show f32Exp f = e + 2 by omega, show f32Frac f = 0 by omega]
    refine ⟨by omega, ?_⟩
    rw [if_neg (by omega), show e + 2 - 1 = e + 1 by omega, pow_succ]
    ring
  · omega

/-- The values of the patterns: above the range of the significands of `2^e` they are multiples of `2^e`. -/
theorem f32Mag_dvd_or_le (f : Word32) (e : ℕ) : 2 ^ e ∣ f32Mag f ∨ f32Mag f ≤ 2 ^ 23 * 2 ^ e := by
  have hfrac := f32Frac_lt f
  rw [f32Mag]
  split
  next => exact .inr (hfrac.le.trans (Nat.le_mul_of_pos_right _ (by positivity)))
  next hexp =>
    rcases le_or_gt e (f32Exp f - 1) with hle | hlt
    · exact .inl (dvd_mul_of_dvd_right (pow_dvd_pow 2 hle) _)
    · right
      calc (2 ^ 23 + f32Frac f) * 2 ^ (f32Exp f - 1)
          ≤ (2 ^ 23 * 2) * 2 ^ (f32Exp f - 1) := Nat.mul_le_mul_right _ (by omega)
        _ = 2 ^ 23 * 2 ^ (f32Exp f - 1 + 1) := by rw [pow_succ]; ring
        _ ≤ 2 ^ 23 * 2 ^ e := Nat.mul_le_mul_left _ (pow_le_pow_right₀ one_le_two (by omega))

theorem f32Num_dvd_or_abs_le (f : Word32) (e : ℕ) :
    (2 : ℤ) ^ e ∣ f32Num f ∨ |f32Num f| ≤ 2 ^ 23 * 2 ^ e := by
  have hmag : (2 : ℤ) ^ e ∣ (f32Mag f : ℤ) ∨ |(f32Mag f : ℤ)| ≤ 2 ^ 23 * 2 ^ e := by
    rw [Nat.abs_cast]
    exact_mod_cast f32Mag_dvd_or_le f e
  rw [f32Num]
  split
  · rwa [dvd_neg, abs_neg]
  · exact hmag

theorem f32Num_of_nonneg {f : Word32} (h : f.toNat < 2 ^ 31) : f32Num f = f32Mag f := by
  have hsign : f.getLsbD 31 = false := by
    rw [BitVec.getLsbD, Nat.testBit_lt_two_pow h]
  rw [f32Num, hsign, if_neg Bool.false_ne_true]

theorem f32Num_of_neg {f : Word32} (h : 2 ^ 31 ≤ f.toNat) : f32Num f = -f32Mag f := by
  have hsign : f.getLsbD 31 = true := by
    rw [BitVec.getLsbD, Nat.testBit_eq_decide_div_mod_eq, decide_eq_true_eq]
    omega
  rw [f32Num, hsign, if_pos rfl]

/-! ## The rounding `b32` -/

/-- What `b32` gives for a quotient below 2^24: the rounded magnitude under a sign `σ`. -/
theorem b32_spec (n : ℤ) {d : ℕ} (hd : 0 < d) (hlt : |(n : ℚ) / d| < 2 ^ 24) :
    CleanFloat (b32 n d) ∧ ∃ (σ : ℤˣ) (e q : ℕ),
      Rounded (σ * ((n : ℚ) / d * 2 ^ 149)) e q ∧ f32Num (b32 n d) = σ * (q * 2 ^ e) := by
  have habs : |(n : ℚ) / d| = (n.natAbs : ℚ) / d := by
    rw [abs_div, Nat.abs_cast, Nat.cast_natAbs, Int.cast_abs]
  rw [habs] at hlt
  obtain ⟨e, q, he, hrounded, hmag⟩ := exists_rounded n.natAbs hd hlt
  have hlow := hrounded.two_pow_le
  have hhigh := hrounded.le_two_pow
  have hpos (hn : 0 ≤ n) : Rounded ((1 : ℤˣ) * ((n : ℚ) / d * 2 ^ 149)) e q := by
    have hcast : (n.natAbs : ℚ) = n := by rw [Nat.cast_natAbs, abs_of_nonneg hn]
    simpa [hcast] using hrounded
  have hneg (hn : n ≤ 0) : Rounded ((-1 : ℤˣ) * ((n : ℚ) / d * 2 ^ 149)) e q := by
    have hcast : (n.natAbs : ℚ) = -n := by
      rw [Nat.cast_natAbs, abs_of_nonpos hn, Int.cast_neg]
    simpa [hcast, neg_div] using hrounded
  rw [b32, hmag]
  split
  next h =>
    obtain ⟨hn, hne⟩ := h
    have hpattern : (BitVec.ofNat 32 (2 ^ 31 + (e * 2 ^ 23 + q))).toNat = 1 * 2 ^ 31 + (e * 2 ^ 23 + q) := by
      rw [BitVec.toNat_ofNat, one_mul, Nat.mod_eq_of_lt (by omega)]
    obtain ⟨hfinite, hvalue⟩ := f32_of_rounded hpattern he hlow hhigh
    refine ⟨⟨hfinite, fun hzero => ?_⟩, -1, e, q, hneg hn.le, ?_⟩
    · rw [hzero] at hpattern
      exact hne (by simpa using hpattern)
    · rw [f32Num_of_neg (by omega), hvalue]
      simp
  next h =>
    have hpattern : (BitVec.ofNat 32 (e * 2 ^ 23 + q)).toNat = 0 * 2 ^ 31 + (e * 2 ^ 23 + q) := by
      rw [BitVec.toNat_ofNat, zero_mul, zero_add, Nat.mod_eq_of_lt (by omega)]
    obtain ⟨hfinite, hvalue⟩ := f32_of_rounded hpattern he hlow hhigh
    refine ⟨⟨hfinite, fun hzero => ?_⟩, ?_⟩
    · rw [hzero] at hpattern
      simp at hpattern
      omega
    · rw [f32Num_of_nonneg (by omega), hvalue]
      rcases le_or_gt 0 n with hn | hn
      · exact ⟨1, e, q, hpos hn, by simp⟩
      · have hzero : e * 2 ^ 23 + q = 0 := by_contra fun hne => h ⟨hn, hne⟩
        exact ⟨-1, e, q, hneg hn.le, by simp [show q = 0 by omega]⟩

theorem abs_sign_mul {R : Type*} [CommRing R] [LinearOrder R] [IsStrictOrderedRing R] (σ : ℤˣ) (a : R) :
    |((σ : ℤ) : R) * a| = |a| := by
  rcases Int.units_eq_one_or σ with rfl | rfl <;> simp

/-- A sign moves from one side of a distance to the other. -/
theorem abs_sign_mul_sub (σ : ℤˣ) (a x : ℚ) : |σ * a - x| = |σ * x - a| := by
  rw [← abs_sign_mul σ (_ - x), abs_sub_comm, mul_sub, ← mul_assoc]
  norm_cast
  simp

/-- No finite binary32 is nearer to the quotient than `b32` of it. -/
theorem b32_nearest (n : ℤ) {d : ℕ} (hd : 0 < d) (hlt : |(n : ℚ) / d| < 2 ^ 24) (f : Word32) :
    |f32Num (b32 n d) - (n : ℚ) / d * 2 ^ 149| ≤ |f32Num f - (n : ℚ) / d * 2 ^ 149| := by
  obtain ⟨-, σ, e, q, hrounded, hvalue⟩ := b32_spec n hd hlt
  have hother : (2 : ℤ) ^ e ∣ σ * f32Num f ∨ |σ * f32Num f| ≤ 2 ^ 23 * 2 ^ e := by
    rw [← Int.cast_id (n := (σ : ℤ)), abs_sign_mul]
    exact (f32Num_dvd_or_abs_le f e).imp_left (Dvd.dvd.mul_left · _)
  have hnear := hrounded.abs_sub_le_abs_sub hother
  have hflip : |(σ : ℚ) * ((n : ℚ) / d * 2 ^ 149) - (σ * f32Num f : ℤ)| =
      |f32Num f - (n : ℚ) / d * 2 ^ 149| := by
    rw [Int.cast_mul, ← mul_sub, abs_sign_mul, abs_sub_comm]
  rw [hvalue, ← hflip]
  push_cast
  rw [abs_sign_mul_sub]
  exact_mod_cast hnear

/-- `b32` is off by half a unit of the last place of a significand of 24 bits, or of the least subnormal. -/
theorem b32_relative_error (n : ℤ) {d : ℕ} (hd : 0 < d) (hlt : |(n : ℚ) / d| < 2 ^ 24) :
    |f32Num (b32 n d) - (n : ℚ) / d * 2 ^ 149| ≤ |(n : ℚ) / d * 2 ^ 149| / 2 ^ 24 + 1 / 2 := by
  obtain ⟨-, σ, e, q, hrounded, hvalue⟩ := b32_spec n hd hlt
  have herror := hrounded.relative_error
  rw [abs_sign_mul] at herror
  rw [hvalue]
  push_cast
  rwa [abs_sign_mul_sub]

/-! ## The physical results -/

/-- Settles O15: the hundredths are far below the range in which `b32` is shown nearest. -/
theorem physicalFloatIsNearest : Obligations.PhysicalFloatIsNearest := by
  intro c hlow hhigh
  have hlt : |(c : ℚ) / (100 : ℕ)| < 2 ^ 24 := by
    have hlow' : (-4500 : ℚ) ≤ c := by exact_mod_cast hlow
    have hhigh' : (c : ℚ) ≤ 13000 := by exact_mod_cast hhigh
    rw [abs_lt]
    constructor <;> push_cast <;> linarith
  obtain ⟨hclean, -⟩ := b32_spec c (by decide) hlt
  refine ⟨hclean, fun f _ => ?_⟩
  have hscale (z : ℤ) :
      ((|100 * z - c * f32Den| : ℤ) : ℚ) = |100 * (z - (c : ℚ) / (100 : ℕ) * 2 ^ 149)| := by
    rw [f32Den]
    push_cast
    congr 1
    ring
  rw [← Int.cast_le (R := ℚ), hscale, hscale, abs_mul, abs_mul]
  exact mul_le_mul_of_nonneg_left (b32_nearest c (by decide) hlt f) (abs_nonneg _)

/-- Settles O51: in range the hundredths have clean binary32 forms (R143). -/
theorem soundFloatsClean : Obligations.SoundFloatsClean := by
  intro s hsound hexact
  obtain ⟨-, -, -, -, -, hphysical⟩ := hsound
  obtain ⟨⟨htlow, hthigh, htf32⟩, hhigh, hrf32⟩ := hphysical hexact
  rw [htf32, hrf32]
  obtain ⟨hcelsius, -⟩ := physicalFloatIsNearest _ htlow hthigh
  obtain ⟨hpercent, -⟩ := physicalFloatIsNearest s.rRhcenti.toNat (by omega) (by omega)
  exact ⟨hcelsius, hpercent⟩

/-! ## The forward conversions in binary32 (U6) -/

/-- The value of a finite binary32 (R10). -/
def f32Val (f : Word32) : ℚ := f32Num f / f32Den

/-- One rounding: half a unit in the last place of a number below `2^k`, and half the least subnormal. -/
theorem abs_f32Val_b32_sub_le (n : ℤ) {d : ℕ} (hd : 0 < d) {x : ℚ} (hx : (n : ℚ) / d = x) (k : ℕ)
    (hk : k ≤ 24) (hlt : |x| < 2 ^ k) : |f32Val (b32 n d) - x| ≤ 2 ^ k / 2 ^ 23 := by
  subst hx
  have herror := b32_relative_error n hd (hlt.trans_le (pow_le_pow_right₀ one_le_two hk))
  have hone : (1 : ℚ) ≤ 2 ^ k := one_le_pow₀ one_le_two
  have hden : (0 : ℚ) < 2 ^ 149 := by positivity
  have hunits : f32Val (b32 n d) - (n : ℚ) / d = (f32Num (b32 n d) - (n : ℚ) / d * 2 ^ 149) / 2 ^ 149 := by
    rw [f32Val, f32Den, sub_div, mul_div_cancel_right₀ _ hden.ne']
    norm_cast
  rw [hunits, abs_div, abs_of_pos hden, div_le_iff₀ hden]
  rw [abs_mul, abs_of_pos hden] at herror
  linarith

/-- `code * k / 65535` with its two operations rounded. -/
theorem abs_quotient_sub_le {k : ℕ} (hk : k ≤ 175) (code : Word) :
    |f32Val (b32 (f32Num (b32 (k * (code.toNat : ℤ)) 1)) (65535 * f32Den)) - k * code.toNat / 65535|
      ≤ 1 / 2 ^ 13 := by
  have hcode : ((k * code.toNat : ℕ) : ℚ) ≤ (175 * 65535 : ℕ) := by
    exact_mod_cast Nat.mul_le_mul hk (Nat.le_of_lt_succ code.isLt)
  have hnonneg : (0 : ℚ) ≤ (k * code.toNat : ℕ) := by positivity
  push_cast at hcode hnonneg
  have hprod := abs_f32Val_b32_sub_le (k * (code.toNat : ℤ)) one_pos (x := k * code.toNat) (by simp) 24 le_rfl
    (by rw [abs_lt]; constructor <;> linarith)
  generalize b32 (k * (code.toNat : ℤ)) 1 = prod at *
  rw [abs_le] at hprod
  obtain ⟨hlow, hhigh⟩ := hprod
  have hquot := abs_f32Val_b32_sub_le (f32Num prod) (d := 65535 * f32Den) (by decide) (x := f32Val prod / 65535)
    (by rw [f32Val]; push_cast; rw [div_div, mul_comm]) 8 (by decide)
    (by rw [abs_lt]; constructor <;> linarith)
  rw [abs_le] at hquot ⊢
  obtain ⟨hqlow, hqhigh⟩ := hquot
  constructor <;> linarith

/-- The difference of U6, rounded, is far less than a hundredth from the formula. -/
theorem abs_difference_sub_lt (code : Word) :
    |f32Val (b32 (f32Num (b32 (f32Num (b32 (175 * (code.toNat : ℤ)) 1)) (65535 * f32Den)) - 45 * (f32Den : ℤ))
      f32Den) - ((code.toNat : ℚ) * 175 / 65535 - 45)| < 1 / 100 := by
  have hcode : (code.toNat : ℚ) ≤ 65535 := by exact_mod_cast Nat.le_of_lt_succ code.isLt
  have hnonneg : (0 : ℚ) ≤ code.toNat := by positivity
  have hquot := abs_quotient_sub_le (k := 175) le_rfl code
  push_cast at hquot
  generalize b32 (f32Num (b32 (175 * (code.toNat : ℤ)) 1)) (65535 * f32Den) = quot at *
  rw [abs_le] at hquot
  obtain ⟨hqlow, hqhigh⟩ := hquot
  have hdiff := abs_f32Val_b32_sub_le (f32Num quot - 45 * (f32Den : ℤ)) (d := f32Den) (by decide)
    (x := f32Val quot - 45) (by rw [f32Val, f32Den]; push_cast; ring) 8 (by decide)
    (by rw [abs_lt]; constructor <;> linarith)
  rw [abs_le] at hdiff
  obtain ⟨hdlow, hdhigh⟩ := hdiff
  rw [abs_lt]
  constructor <;> linarith

/-- Roundings to hundredths of numbers less than a hundredth apart are at most one hundredth apart. -/
theorem abs_rhazDiv_f32_sub_le_one {f : Word32} {c : ℤ} {x : ℚ} (hf : |f32Val f - x| < 1 / 100)
    (hc : |(c : ℚ) - 100 * x| ≤ 1 / 2) : |rhazDiv (100 * f32Num f) f32Den - c| ≤ 1 := by
  have hround := abs_rhazDiv_sub_le (100 * f32Num f) (d := f32Den) (by decide)
  have hval : ((100 * f32Num f : ℤ) : ℚ) / f32Den = 100 * f32Val f := by
    rw [f32Val]
    push_cast
    ring
  rw [hval, abs_le] at hround
  rw [abs_lt] at hf
  rw [abs_le] at hc
  generalize rhazDiv (100 * f32Num f) f32Den = r at *
  obtain ⟨hrlow, hrhigh⟩ := hround
  obtain ⟨hflow, hfhigh⟩ := hf
  obtain ⟨hclow, hchigh⟩ := hc
  have hlow : ((-2 : ℤ) : ℚ) < (r - c : ℤ) := by
    push_cast
    linarith
  have hhigh : ((r - c : ℤ) : ℚ) < (2 : ℤ) := by
    push_cast
    linarith
  rw [Int.cast_lt] at hlow hhigh
  rw [abs_le]
  omega

/-- Settles O11: the roundings of U6 move the value by far less than a hundredth. -/
theorem binary32WithinOneHundredth : Obligations.Binary32WithinOneHundredth := by
  intro code
  refine ⟨abs_rhazDiv_f32_sub_le_one (abs_difference_sub_lt code) (abs_tCentiExact_sub_le code),
    abs_rhazDiv_f32_sub_le_one (x := code.toNat * 100 / 65535) ?_ (abs_rhCentiExact_sub_le code)⟩
  have hquot := abs_quotient_sub_le (k := 100) (by decide) code
  rw [mul_comm ((100 : ℕ) : ℚ)] at hquot
  exact_mod_cast hquot.trans_lt (by norm_num)

end Sys2Proof.Machine
end
